-- ==== Sys2Proof/Word.lean ====
section
/-! DEFINITION. The two bit-vector types every value of the block is made of (00_scope.md R12). -/

namespace Sys2Proof

/-- A byte: 8 bits (R12). -/
abbrev Byte := BitVec 8

/-- A word: 32 bits, unsigned, arithmetic modulo 2^32 (R7, R12). -/
abbrev Word := BitVec 32

end Sys2Proof
end

