-- ==== Sys2Proof/Config.lean ====
section
/-! DEFINITION. What one implementation fixes and the spec leaves open. Every constant here has no
body: no proof can see a value, so a claim holds whatever the value is. -/

namespace Sys2Proof

/-- `PWD_PAD`, 32 bytes (R8); the spec gives no byte of it (log entry 3). -/
opaque Config.pwdPad : Vector Byte 32

/-- `KEY_PAD`, 24 bytes (R9); the spec gives no byte of it (log entry 3). -/
opaque Config.keyPad : Vector Byte 24

/-- Which 128-byte block of the bus the window is (R10; log entry 4). -/
opaque Config.baseIndex : Nat

/-- `BASE`, the bus address of byte offset 0 of the window, 128-byte aligned (R10). -/
def Config.base : Nat := 128 * Config.baseIndex

/-- `LATENCY` (R11, R122): how many host statements run between the acceptance of a command and its
complete step, for the draw of the given number (log entry 1). -/
opaque Config.latency : Nat → Nat

/-- What a host read of a register other than STATUS and CMD returns while BUSY = 1 (R123), for the
draw of the given number (log entry 5). -/
opaque Config.busyRead : Nat → Word

end Sys2Proof
end

