-- ==== Sys2Proof/Syntax.lean ====
section
/-! DEFINITION. The commands of the block (30_encoding.md R60), the names of its registers
(10_state.md R19), and the statements of the host's program (R65). -/

namespace Sys2Proof

/-- The 13 commands, one constructor for each row of the opcode table (R60). The argument is IMM5, an
unsigned number (R58). -/
inductive Instr where
  | nop                      -- R76
  | rotr                     -- R77
  | packle (off : Nat)       -- R78
  | unpackle (off : Nat)     -- R79
  | revb                     -- R80
  | seedPwd                  -- R87
  | seedKey (count : Nat)    -- R88
  | mix (n : Nat)            -- R82
  | scramble (count : Nat)   -- R89
  | derivePwd                -- R90
  | deriveKey                -- R91
  | teaEnc                   -- R96
  | teaDec                   -- R97
deriving DecidableEq, Repr

/-- The named registers of the window (R19). Reserved offsets have no name. -/
inductive Reg where
  | cmd
  | status
  | uid0
  | uid1
  | result
  | opa
  | opb
  | pwd
  | key (j : Fin 4)
  | v0
  | v1
  | seed (i : Fin 8)
deriving DecidableEq, Repr

/-- Host-side arithmetic (`expr` of R65): it touches no register. The spec gives no grammar; this one
is the model's (log entry 10). Arithmetic is that of R12. -/
inductive Expr where
  | const (v : Word)
  | var (x : Nat)
  | add (a b : Expr)
  | sub (a b : Expr)
  | and (a b : Expr)
  | or (a b : Expr)
  | xor (a b : Expr)
  | shl (a : Expr) (n : Nat)
  | shr (a : Expr) (n : Nat)
deriving DecidableEq, Repr

/-- Conditions of the host's `if` (R65, R67 `$s[0] = 1`, R71 `$a = $b`). -/
inductive Cond where
  | eq (a b : Expr)
  | ne (a b : Expr)
  | bitSet (a : Expr) (k : Nat)
deriving DecidableEq, Repr

/-- A statement of the host's program (R65). Host variables are numbered. -/
inductive HostStmt where
  /-- `wr NAME, v`: `MemWrite(BASE + off(NAME), 4, v)`. -/
  | wr (r : Reg) (v : Expr)
  /-- `rd NAME -> $x`: `x <- MemRead(BASE + off(NAME), 4)`. -/
  | rd (r : Reg) (x : Nat)
  /-- `MNEMONIC imm`: `wr CMD, word`. -/
  | command (i : Instr)
  /-- A bus write of `bytes` bytes at a bus address, accepted or not (R44). -/
  | busWrite (addr bytes : Nat) (v : Expr)
  /-- A bus read of `bytes` bytes at a bus address, accepted or not (R44). -/
  | busRead (addr bytes : Nat) (x : Nat)
  /-- `$x <- expr`. -/
  | assign (x : Nat) (e : Expr)
  /-- `if`, `for` and labels: when `c` holds, the next statement is the one `d` places from this one;
  else the following one. -/
  | branch (c : Cond) (d : Int)
deriving DecidableEq, Repr

end Sys2Proof
end

