-- ==== Sys2Proof/Machine/State.lean ====
section
/-! DEFINITION. The state of the block and of its host, as plain data (10_state.md R19, R37, R39), the
reasons a step can stop, and the state after reset. -/

namespace Sys2Proof.Machine

/-- The engine (R37). `busy w remaining`: the word accepted, and how many more host statements run
before the complete step, the drawn LATENCY of R122 (log entry 1). -/
inductive Engine where
  | idle
  | busy (w : Word) (remaining : Nat)
deriving DecidableEq, Repr

/-- The errors a command can complete with (R100, R101). They are reports in STATUS, not stops (R99). -/
inductive ErrCode where
  | invalidArgument
  | illegalCommand
deriving DecidableEq, Repr

/-- Why a run stops: the two faults of the HOST PROGRAM that the spec names (R105). -/
inductive Fault where
  /-- HOST_HAZARD (R124): raised by a host write while BUSY = 1 to any register other than STATUS. Safe:
  the spec gives no meaning to what follows. -/
  | hostHazard
  /-- BUS_REJECT (R44): raised by a host access that is not an aligned 32-bit access in the window.
  Safe: the spec gives it no value and no effect. -/
  | busReject
deriving DecidableEq, Repr

/-- Why an instruction has no meaning. -/
inductive Refusal where
  /-- Raised by no instruction of this model; the name an instruction without a meaning would carry.
  Safe. -/
  | notModelled (mnemonic : String)
deriving DecidableEq, Repr

/-- The whole state: the block's registers (R19), its engine (R37), its reset input (R116), and its one
host (R17). -/
structure State where
  /-- CMD (R20): the last command word accepted. -/
  cmd : Word
  /-- STATUS (R21), bits 7:0; bits 31:8 read as zero and are not stored. -/
  status : BitVec 8
  /-- UID0 (R24). -/
  uid0 : Word
  /-- UID1 (R24, R25), bits 23:0; bits 31:24 read as zero and are not stored. -/
  uid1 : BitVec 24
  /-- RESULT (R26). -/
  result : Word
  /-- OPA (R27). -/
  opa : Word
  /-- OPB (R28). -/
  opb : Word
  /-- PWD (R29). -/
  pwd : Word
  /-- KEY0 to KEY3 (R30). -/
  key : Vector Word 4
  /-- V0 (R31). -/
  v0 : Word
  /-- V1 (R31). -/
  v1 : Word
  /-- seed[0] to seed[31], which are SEED0 to SEED7 (R32). -/
  seed : Vector Byte 32
  /-- The engine state (R37). -/
  engine : Engine
  /-- A pulse on the reset input, not taken yet (R116; log entry 11). -/
  resetIn : Bool
  /-- How many open values have been drawn: the model's own field (log entry 8). -/
  draws : Nat
  /-- The host's program (R65; log entry 9). -/
  hostProg : List HostStmt
  /-- Which statement the host performs next (R65). -/
  hostPos : Nat
  /-- The host's variables (R65), keys strictly rising, no entry 0 (log entry 9). -/
  hostVars : List (Nat × Word)
deriving DecidableEq, Repr

/-- The machine right after reset (R39, R116): every register and seed byte 0, STATUS 0, engine idle;
and no host program (log entries 8, 9, 11, 17). -/
def State.reset : State where
  cmd := 0#32
  status := 0#8
  uid0 := 0#32
  uid1 := 0#24
  result := 0#32
  opa := 0#32
  opb := 0#32
  pwd := 0#32
  key := #v[0#32, 0#32, 0#32, 0#32]
  v0 := 0#32
  v1 := 0#32
  seed := Vector.replicate 32 0#8
  engine := .idle
  resetIn := false
  draws := 0
  hostProg := []
  hostPos := 0
  hostVars := []

end Sys2Proof.Machine
end

