-- ==== Sys2Proof/Machine/Flags.lean ====
section
/-! DEFINITION. The fields of STATUS (10_state.md R21) and the four updates of it (R21, R23). The block
has no other flag (R36). -/

namespace Sys2Proof.Machine

/-- BUSY, bit 0 (R21). -/
def statusBusy (st : BitVec 8) : Bool := st.getLsbD 0

/-- DONE, bit 1 (R21). -/
def statusDone (st : BitVec 8) : Bool := st.getLsbD 1

/-- ERR, bit 2 (R21). -/
def statusErr (st : BitVec 8) : Bool := st.getLsbD 2

/-- STICKY_ERR, bit 3 (R21). -/
def statusSticky (st : BitVec 8) : Bool := st.getLsbD 3

/-- ERRCODE, bits 7:4 (R21). -/
def statusErrCode (st : BitVec 8) : BitVec 4 := st.extractLsb' 4 4

/-- A STATUS value from its fields (R21). -/
def statusPack (busy done err sticky : Bool) (code : BitVec 4) : BitVec 8 :=
  code ++ BitVec.ofBool sticky ++ BitVec.ofBool err ++ BitVec.ofBool done ++ BitVec.ofBool busy

/-- `code(e)` (R21): 1 INVALID_ARGUMENT, 2 ILLEGAL_COMMAND. -/
def ErrCode.code : ErrCode → BitVec 4
  | .invalidArgument => 1#4
  | .illegalCommand => 2#4

/-- STATUS at acceptance of a command (R23). -/
def statusAccept (st : BitVec 8) : BitVec 8 := statusPack true false false (statusSticky st) 0#4

/-- STATUS at completion without error (R23). -/
def statusOk (st : BitVec 8) : BitVec 8 := statusPack false true false (statusSticky st) 0#4

/-- STATUS at completion with error `e` (R23). -/
def statusError (e : ErrCode) : BitVec 8 := statusPack false true true true e.code

/-- STATUS after a host write of `w` to it: bit 3 of `w` clears STICKY_ERR, nothing else changes (R21). -/
def statusWrite (st : BitVec 8) (w : Word) : BitVec 8 :=
  statusPack (statusBusy st) (statusDone st) (statusErr st) (statusSticky st && !w.getLsbD 3) (statusErrCode st)

end Sys2Proof.Machine
end

