-- ==== Sys2Proof/Machine/Operands.lean ====
section
/-! DEFINITION. The pure functions of the spec: the bit utilities (40_bit_utilities.md section 1), the
UID's bytes (10_state.md R24), the mixer's recurrence (41_uid_mixer.md R81), the two seed buffers
(42_derivation.md section 1) and the TEA rounds (43_tea.md section 1). None of them reads State. -/

namespace Sys2Proof.Machine

/-- `rotr(v, amount)` (R72): the amount is an 8-bit value taken modulo 32. -/
def rotr (v : Word) (amount : Byte) : Word :=
  let a := amount.toNat % 32
  if a = 0 then v else (v >>> a) ||| (v <<< (32 - a))

/-- `packLE(b0, b1, b2, b3)` (R73): byte 0 is least significant. -/
def packLE (b0 b1 b2 b3 : Byte) : Word :=
  b0.setWidth 32 ||| b1.setWidth 32 <<< 8 ||| b2.setWidth 32 <<< 16 ||| b3.setWidth 32 <<< 24

/-- `v[8k+7:8k]`: byte `k` of a word, 0 to 3 (R43, R74). -/
def byteOf (v : Word) (k : Nat) : Byte := v.extractLsb' (8 * k) 8

/-- `unpackLE(v)` (R74): the four bytes of a word, least significant first. -/
def unpackLE (v : Word) : Vector Byte 4 := #v[byteOf v 0, byteOf v 1, byteOf v 2, byteOf v 3]

/-- `revb(v)` (R75): the word with its four bytes in reverse order. -/
def revb (v : Word) : Word := packLE (byteOf v 3) (byteOf v 2) (byteOf v 1) (byteOf v 0)

/-- `uid[0]` to `uid[6]`, from UID0 and the 24 stored bits of UID1 (R24). -/
def uidBytes (uid0 : Word) (uid1 : BitVec 24) : Vector Byte 7 :=
  #v[byteOf uid0 0, byteOf uid0 1, byteOf uid0 2, byteOf uid0 3,
    byteOf (uid1.setWidth 32) 0, byteOf (uid1.setWidth 32) 1, byteOf (uid1.setWidth 32) 2]

/-- The 32-byte seed buffer (R32). -/
abbrev SeedBuffer := Vector Byte 32

/-- `seed[i]`, i = 0 to 31 (R14, R32). No command reads past byte 31: each checks its range first, so
the 0 given for another index is never read (log entry 15). -/
def seedByte (buf : SeedBuffer) (i : Nat) : Byte := if h : i < 32 then buf[i] else 0#8

/-- `packLE(seed[off], seed[off+1], seed[off+2], seed[off+3])` (R78, R81, R32). -/
def seedWord (buf : SeedBuffer) (off : Nat) : Word :=
  packLE (seedByte buf off) (seedByte buf (off + 1)) (seedByte buf (off + 2)) (seedByte buf (off + 3))

/-- `seed[lo..lo+len] <- bs`: the one write of the seed buffer. Every other byte is kept. -/
def overwrite (buf : SeedBuffer) (lo : Nat) {len : Nat} (bs : Vector Byte len) : SeedBuffer :=
  Vector.ofFn fun i => if h : lo ≤ i.val ∧ i.val < lo + len then bs[i.val - lo] else buf[i]

/-- The sentinel value (R7). -/
def sentinel : Byte := 0xAA#8

/-- One turn of the mixer's loop: `acc <- b + rotr(acc, 25) + rotr(acc, 10) - acc` modulo 2^32 (R81). -/
def mixStep (b acc : Word) : Word := b + rotr acc 25#8 + rotr acc 10#8 - acc

/-- `mix(n)` over a seed buffer (R81): the accumulator starts at 0 and takes the words 0 to n-1. -/
def mix (buf : SeedBuffer) (n : Nat) : Word :=
  (List.range n).foldl (fun acc i => mixStep (seedWord buf (4 * i)) acc) 0#32

/-- `seedPwd()` (R85), its three steps in order: the pad, the UID, the two sentinels. -/
def seedPwd (pad : Vector Byte 32) (uid : Vector Byte 7) (buf : SeedBuffer) : SeedBuffer :=
  overwrite (overwrite (overwrite buf 0 pad) 0 uid) 30 #v[sentinel, sentinel]

/-- `seedKey(count)` (R86), its steps in order: the pad into bytes 0 to 23, the UID, and for count >= 1
the sentinel at byte 4*count - 1. -/
def seedKey (pad : Vector Byte 24) (uid : Vector Byte 7) (count : Nat) (buf : SeedBuffer) : SeedBuffer :=
  let withUid := overwrite (overwrite buf 0 pad) 0 uid
  if 1 ≤ count then overwrite withUid (4 * count - 1) #v[sentinel] else withUid

/-- The values a TEA loop carries (R38): the round sum and the two block words. -/
structure TeaState where
  sum : Word
  v0 : Word
  v1 : Word
deriving DecidableEq, Repr

/-- `delta` (R7). -/
def teaDelta : Word := 0x9E3779B9#32

/-- `((v << 4) + ka) ^ (v + sum) ^ ((v >> 5) + kb)`, the half-round function (R94). -/
def teaMixin (v sum ka kb : Word) : Word := ((v <<< 4) + ka) ^^^ (v + sum) ^^^ ((v >>> 5) + kb)

/-- One encrypt round (R94): the update of v1 uses the v0 just computed. -/
def teaEncRound (k : Vector Word 4) (t : TeaState) : TeaState :=
  let sum := t.sum + teaDelta
  let v0 := t.v0 + teaMixin t.v1 sum k[0] k[1]
  let v1 := t.v1 + teaMixin v0 sum k[2] k[3]
  ⟨sum, v0, v1⟩

/-- One decrypt round (R95): v1 before v0, then the sum. -/
def teaDecRound (k : Vector Word 4) (t : TeaState) : TeaState :=
  let v1 := t.v1 - teaMixin t.v0 t.sum k[2] k[3]
  let v0 := t.v0 - teaMixin v1 t.sum k[0] k[1]
  ⟨t.sum - teaDelta, v0, v1⟩

/-- `teaEncrypt(v0, v1, k0..k3)` (R94): 32 rounds from sum 0. -/
def teaEncrypt (k : Vector Word 4) (v0 v1 : Word) : Word × Word :=
  let t := (teaEncRound k)^[32] ⟨0#32, v0, v1⟩
  (t.v0, t.v1)

/-- `teaDecrypt(v0, v1, k0..k3)` (R95): 32 rounds from sum 0xC6EF3720. -/
def teaDecrypt (k : Vector Word 4) (v0 v1 : Word) : Word × Word :=
  let t := (teaDecRound k)^[32] ⟨0xC6EF3720#32, v0, v1⟩
  (t.v0, t.v1)

end Sys2Proof.Machine
end

