-- ==== Sys2Proof/Machine/Ops.lean ====
section
/-! DEFINITION. The named operations over the block's registers: the register window (10_state.md
R19), the end of a command with and without an error (R23, R99), the acceptance of a command (R20),
the host's accesses (20_memory.md, 70_reset_and_hazards.md R123, R124) and reset (R116). -/

namespace Sys2Proof.Machine

/-- What a step answers in this model. -/
abbrev Result := Host.Outcome State Fault Refusal

/-- Goes on with `f` after a next state; a stop stays. -/
def mapNext (f : State → State) : Result → Result
  | .next s => .next (f s)
  | .fault r => .fault r
  | .refused r => .refused r

/-! One update for each field that something writes. -/

def State.setCmd (s : State) (v : Word) : State := { s with cmd := v }
def State.setStatus (s : State) (v : BitVec 8) : State := { s with status := v }
def State.setUid0 (s : State) (v : Word) : State := { s with uid0 := v }
def State.setUid1 (s : State) (v : BitVec 24) : State := { s with uid1 := v }
def State.setResult (s : State) (v : Word) : State := { s with result := v }
def State.setOpa (s : State) (v : Word) : State := { s with opa := v }
def State.setOpb (s : State) (v : Word) : State := { s with opb := v }
def State.setPwd (s : State) (v : Word) : State := { s with pwd := v }
def State.setKey (s : State) (j : Fin 4) (v : Word) : State := { s with key := s.key.set j v }
def State.setV0 (s : State) (v : Word) : State := { s with v0 := v }
def State.setV1 (s : State) (v : Word) : State := { s with v1 := v }
def State.setSeed (s : State) (v : SeedBuffer) : State := { s with seed := v }
def State.setEngine (s : State) (v : Engine) : State := { s with engine := v }
def State.setDraws (s : State) (v : Nat) : State := { s with draws := v }
def State.setHostPos (s : State) (v : Nat) : State := { s with hostPos := v }
def State.setHostVars (s : State) (v : List (Nat × Word)) : State := { s with hostVars := v }

/-! The register window. -/

/-- The byte offset of a register from BASE (R19). -/
def regOffset : Reg → Nat
  | .cmd => 0x00
  | .status => 0x04
  | .uid0 => 0x08
  | .uid1 => 0x0C
  | .result => 0x10
  | .opa => 0x14
  | .opb => 0x18
  | .pwd => 0x1C
  | .key j => 0x20 + 4 * j.val
  | .v0 => 0x30
  | .v1 => 0x34
  | .seed i => 0x40 + 4 * i.val

/-- The named registers, in the order of the register map (R19). -/
def allRegs : List Reg :=
  [.cmd, .status, .uid0, .uid1, .result, .opa, .opb, .pwd, .key 0, .key 1, .key 2, .key 3, .v0, .v1,
    .seed 0, .seed 1, .seed 2, .seed 3, .seed 4, .seed 5, .seed 6, .seed 7]

/-- The register at an offset of the window; `none` at a reserved offset (R19). -/
def regAt (off : Nat) : Option Reg := allRegs.find? fun r => regOffset r == off

/-- `R[NAME]`: the value of a register (R14, R19). Bits 31:8 of STATUS and 31:24 of UID1 read as zero
(R21, R25). -/
def State.read (s : State) : Reg → Word
  | .cmd => s.cmd
  | .status => s.status.setWidth 32
  | .uid0 => s.uid0
  | .uid1 => s.uid1.setWidth 32
  | .result => s.result
  | .opa => s.opa
  | .opb => s.opb
  | .pwd => s.pwd
  | .key j => s.key[j]
  | .v0 => s.v0
  | .v1 => s.v1
  | .seed i => seedWord s.seed (4 * i.val)

/-- The word at an offset of the window: reserved offsets hold 0 (R33, R45). -/
def State.readOffset (s : State) (off : Nat) : Word :=
  match regAt off with
  | some r => s.read r
  | none => 0#32

/-- The byte at bus address `BASE + k`, k = 0 to 127 (R43). -/
def State.windowByte (s : State) (k : Nat) : Byte := byteOf (s.readOffset (4 * (k / 4))) (k % 4)

/-- The UID, `uid[0]` to `uid[6]` (R24). -/
def State.uid (s : State) : Vector Byte 7 := uidBytes s.uid0 s.uid1

/-! Command completion and acceptance. -/

/-- The end of a command without error: STATUS and engine (R23, R37). -/
def State.completeOk (s : State) : State := (s.setStatus (statusOk s.status)).setEngine .idle

/-- `raise e` (R14, R99): the command ends with an error report in STATUS and no other effect (R102).
This is the block's whole exception entry: nothing is saved, no mode or address changes (R99, R107),
and there is no return; the next acceptance clears ERR and ERRCODE (R107). -/
def State.raise (s : State) (e : ErrCode) : State := (s.setStatus (statusError e)).setEngine .idle

/-- Takes the number of the next open value (log entry 8). -/
def State.draw (s : State) : State := s.setDraws (s.draws + 1)

/-- Acceptance of the command word `w` (R20, R23, R37), with a freshly drawn latency (R122). -/
def State.accept (s : State) (w : Word) : State :=
  (((s.setCmd w).setStatus (statusAccept s.status)).setEngine (.busy w (Config.latency s.draws))).draw

/-! Host accesses. -/

/-- The offset that a host access of `bytes` bytes at a bus address is accepted at: 32 bits wide, in
the window, aligned; `none` where the access is not accepted (R44). -/
def acceptedOffset (addr bytes : Nat) : Option Nat :=
  if bytes = 4 ∧ Config.base ≤ addr ∧ addr < Config.base + 0x80 ∧ (addr - Config.base) % 4 = 0 then
    some (addr - Config.base)
  else none

/-- An accepted host read: the value and the state after it. While BUSY = 1 a register other than
STATUS and CMD returns an open value, fresh for each read (R123); no read changes a register (R48). -/
def hostRead (off : Nat) (s : State) : Word × State :=
  if statusBusy s.status && !(off == 0x00) && !(off == 0x04) then (Config.busyRead s.draws, s.draw)
  else (s.readOffset off, s)

/-- The effect of a host write on a register while the block is not busy (R19 to R33): CMD accepts a
command, STATUS clears STICKY_ERR, UID1 takes bits 23:0, PWD ignores the write. -/
def State.write (s : State) (r : Reg) (v : Word) : State :=
  match r with
  | .cmd => s.accept v
  | .status => s.setStatus (statusWrite s.status v)
  | .uid0 => s.setUid0 v
  | .uid1 => s.setUid1 (v.setWidth 24)
  | .result => s.setResult v
  | .opa => s.setOpa v
  | .opb => s.setOpb v
  | .pwd => s
  | .key j => s.setKey j v
  | .v0 => s.setV0 v
  | .v1 => s.setV1 v
  | .seed i => s.setSeed (overwrite s.seed (4 * i.val) (unpackLE v))

/-- A write at an offset of the window: reserved offsets ignore it (R33, R45). -/
def State.writeOffset (s : State) (off : Nat) (v : Word) : State :=
  match regAt off with
  | some r => s.write r v
  | none => s

/-- An accepted host write: while BUSY = 1 only STATUS may be written; any other write is the host
hazard (R124). -/
def hostWrite (off : Nat) (v : Word) (s : State) : Result :=
  if statusBusy s.status && !(off == 0x04) then .fault .hostHazard
  else .next (s.writeOffset off v)

/-! Reset. -/

/-- The reset input taken (R116, R117): every piece of the block's state at its reset value, a pending
command discarded. The host keeps its program, and the draw counter goes on. -/
def State.blockReset (s : State) : State :=
  { State.reset with
    draws := s.draws, hostProg := s.hostProg, hostPos := s.hostPos, hostVars := s.hostVars }

end Sys2Proof.Machine
end

