-- ==== Sys2Proof/Machine/BitUtil.lean ====
section
/-! DEFINITION. The bit-utility commands (40_bit_utilities.md section 2). Each is one complete step of
the engine (R37): its effect and the completion update of STATUS. -/

namespace Sys2Proof.Machine

/-- NOP (R76). -/
def execNop (s : State) : Result := .next s.completeOk

/-- ROTR (R77): RESULT <- rotr(OPA, OPB[7:0]); OPB[31:8] is ignored (R28). -/
def execRotr (s : State) : Result :=
  .next (s.setResult (rotr s.opa (s.opb.extractLsb' 0 8))).completeOk

/-- PACKLE off (R78). -/
def execPackle (off : Nat) (s : State) : Result :=
  if off > 28 then .next (s.raise .invalidArgument)
  else .next (s.setResult (seedWord s.seed off)).completeOk

/-- UNPACKLE off (R79). -/
def execUnpackle (off : Nat) (s : State) : Result :=
  if off > 28 then .next (s.raise .invalidArgument)
  else .next (s.setSeed (overwrite s.seed off (unpackLE s.opa))).completeOk

/-- REVB (R80). -/
def execRevb (s : State) : Result := .next (s.setResult (revb s.opa)).completeOk

end Sys2Proof.Machine
end

