-- ==== Sys2Proof/Machine/Derive.lean ====
section
/-! DEFINITION. Seed initialisation and derivation commands (42_derivation.md section 2). -/

namespace Sys2Proof.Machine

/-- The seed buffer becomes the password seed buffer of the UID (R85). -/
def State.seedPwd (s : State) : State := s.setSeed (Machine.seedPwd Config.pwdPad s.uid s.seed)

/-- Bytes 0 to 23 become the key seed buffer of the UID for `count` (R86). -/
def State.seedKey (s : State) (count : Nat) : State :=
  s.setSeed (Machine.seedKey Config.keyPad s.uid count s.seed)

/-- `scramble(uid, count)` (R89): seed, then mix into RESULT. -/
def State.scramble (s : State) (count : Nat) : State :=
  let t := s.seedKey count
  t.setResult (mix t.seed count)

/-- One turn of DERIVE_KEY's loop (R91): KEYj is the reversed scramble of 3 + j, RESULT the raw one. -/
def State.deriveKeyWord (s : State) (j : Fin 4) : State :=
  let t := s.scramble (3 + j.val)
  t.setKey j (revb t.result)

/-- SEED_PWD (R87). -/
def execSeedPwd (s : State) : Result := .next s.seedPwd.completeOk

/-- SEED_KEY count (R88). -/
def execSeedKey (count : Nat) (s : State) : Result :=
  if count > 6 then .next (s.raise .invalidArgument)
  else .next (s.seedKey count).completeOk

/-- SCRAMBLE count (R89). -/
def execScramble (count : Nat) (s : State) : Result :=
  if count > 6 then .next (s.raise .invalidArgument)
  else .next (s.scramble count).completeOk

/-- DERIVE_PWD (R90). -/
def execDerivePwd (s : State) : Result :=
  let t := s.seedPwd
  let r := mix t.seed 8
  .next ((t.setResult r).setPwd r).completeOk

/-- DERIVE_KEY (R91): the four key words in order. -/
def execDeriveKey (s : State) : Result :=
  .next ((((s.deriveKeyWord 0).deriveKeyWord 1).deriveKeyWord 2).deriveKeyWord 3).completeOk

end Sys2Proof.Machine
end

