-- ==== Sys2Proof/Machine/Mixer.lean ====
section
/-! DEFINITION. The mixer command (41_uid_mixer.md section 1). -/

namespace Sys2Proof.Machine

/-- MIX n (R82). -/
def execMix (n : Nat) (s : State) : Result :=
  if n > 8 then .next (s.raise .invalidArgument)
  else .next (s.setResult (mix s.seed n)).completeOk

end Sys2Proof.Machine
end

