-- ==== Sys2Proof/Machine/Tea.lean ====
section
/-! DEFINITION. The TEA commands (43_tea.md section 2). -/

namespace Sys2Proof.Machine

/-- The block V0, V1 replaced (R31). -/
def State.setBlock (s : State) (b : Word × Word) : State := (s.setV0 b.1).setV1 b.2

/-- TEA_ENC (R96). -/
def execTeaEnc (s : State) : Result := .next (s.setBlock (teaEncrypt s.key s.v0 s.v1)).completeOk

/-- TEA_DEC (R97). -/
def execTeaDec (s : State) : Result := .next (s.setBlock (teaDecrypt s.key s.v0 s.v1)).completeOk

end Sys2Proof.Machine
end

