-- ==== Sys2Proof/Machine/Dispatch.lean ====
section
/-! DEFINITION. The engine's complete step for each command (10_state.md R37, 30_encoding.md R60). -/

namespace Sys2Proof.Machine

def exec (i : Instr) (s : State) : Host.Outcome State Fault Refusal :=
  match i with
  | .nop => Sys2Proof.Machine.execNop s
  | .rotr => Sys2Proof.Machine.execRotr s
  | .packle off => Sys2Proof.Machine.execPackle off s
  | .unpackle off => Sys2Proof.Machine.execUnpackle off s
  | .revb => Sys2Proof.Machine.execRevb s
  | .seedPwd => Sys2Proof.Machine.execSeedPwd s
  | .seedKey count => Sys2Proof.Machine.execSeedKey count s
  | .mix n => Sys2Proof.Machine.execMix n s
  | .scramble count => Sys2Proof.Machine.execScramble count s
  | .derivePwd => Sys2Proof.Machine.execDerivePwd s
  | .deriveKey => Sys2Proof.Machine.execDeriveKey s
  | .teaEnc => Sys2Proof.Machine.execTeaEnc s
  | .teaDec => Sys2Proof.Machine.execTeaDec s

end Sys2Proof.Machine
end

