-- ==== Sys2Proof/WellFormed.lean ====
section
/-! DEFINITION. Which instruction terms a command word can express (30_encoding.md R57, R58), and
which arguments the commands accept (R60, R63). -/

namespace Sys2Proof

/-- The value of the IMM5 field of an instruction's word: its argument, or 0 (R57). -/
def Instr.imm : Instr → Nat
  | .packle off => off
  | .unpackle off => off
  | .seedKey count => count
  | .mix n => n
  | .scramble count => count
  | .nop | .rotr | .revb | .seedPwd | .derivePwd | .deriveKey | .teaEnc | .teaDec => 0

/-- The instruction has a command word: its argument is an unsigned 5-bit number (R57, R58). -/
def Instr.wellFormed (i : Instr) : Bool := decide (i.imm ≤ 31)

/-- The argument is in the command's own range: the legal column of the opcode map (R60). Outside it
the command completes with INVALID_ARGUMENT (R63). -/
def Instr.argInRange : Instr → Bool
  | .packle off => decide (off ≤ 28)
  | .unpackle off => decide (off ≤ 28)
  | .seedKey count => decide (count ≤ 6)
  | .mix n => decide (n ≤ 8)
  | .scramble count => decide (count ≤ 6)
  | .nop | .rotr | .revb | .seedPwd | .derivePwd | .deriveKey | .teaEnc | .teaDec => true

/-- A command statement's immediate is 0 to 31 (R65); every other statement is well formed. -/
def HostStmt.wellFormed : HostStmt → Bool
  | .command i => i.wellFormed
  | .wr _ _ | .rd _ _ | .busWrite _ _ _ | .busRead _ _ _ | .assign _ _ | .branch _ _ => true

end Sys2Proof
end

