-- ==== Sys2Proof/Decode.lean ====
section
/-! DEFINITION. The decoder of command words (30_encoding.md R57 to R64), total, rejecting by name, and
after it the encoder. -/

namespace Sys2Proof

open Sys2Proof.Machine (packLE byteOf)

/-- Why a word is no command: the first of R61's checks that applies. `truncated` is for a byte string
shorter than a command (R64). -/
inductive Reject where
  | reservedBits       -- R61 step 1: w[31:13] ≠ 0
  | undefinedOpcode    -- R61 step 2: w[7:0] not in R60
  | immediateNotZero   -- R61 step 3: IMM5 ≠ 0 on an opcode that takes none
  | truncated
deriving DecidableEq, Repr

/-- What the decoder answers. -/
inductive Decoded where
  | instr (i : Instr)
  | reject (r : Reject)
deriving DecidableEq, Repr

/-- OP, bits 7:0 (R57). -/
def opField (w : Word) : Byte := w.extractLsb' 0 8

/-- IMM5, bits 12:8 (R57). -/
def immField (w : Word) : BitVec 5 := w.extractLsb' 8 5

/-- RSV, bits 31:13 (R57). -/
def rsvField (w : Word) : BitVec 19 := w.extractLsb' 13 19

/-- A row of the opcode map: a command without an immediate, or one that takes one (R60). -/
inductive OpRow where
  | plain (i : Instr)
  | withImm (mk : Nat → Instr)

/-- The opcode map (R60). -/
def opTable : List (Byte × OpRow) :=
  [(0x00#8, .plain .nop), (0x01#8, .plain .rotr), (0x02#8, .withImm .packle),
    (0x03#8, .withImm .unpackle), (0x04#8, .plain .revb), (0x10#8, .plain .seedPwd),
    (0x11#8, .withImm .seedKey), (0x20#8, .withImm .mix), (0x21#8, .withImm .scramble),
    (0x22#8, .plain .derivePwd), (0x23#8, .plain .deriveKey), (0x30#8, .plain .teaEnc),
    (0x31#8, .plain .teaDec)]

/-- The row of an opcode (R60). -/
def opRow (op : Byte) : Option OpRow := opTable.lookup op

/-- Decoding of a command word, in the order of R61; the immediate is `zext(w[12:8])` (R58). -/
def decode (w : Word) : Decoded :=
  if rsvField w ≠ 0#19 then .reject .reservedBits
  else match opRow (opField w) with
    | none => .reject .undefinedOpcode
    | some (.plain i) => if immField w ≠ 0#5 then .reject .immediateNotZero else .instr i
    | some (.withImm mk) => .instr (mk (immField w).toNat)

/-- Decoding from bytes: the four bytes at CMD's bus addresses, in the window's little-endian order
(R43, R64). -/
def decodeBytes : List Byte → Decoded
  | b0 :: b1 :: b2 :: b3 :: _ => decode (packLE b0 b1 b2 b3)
  | _ => .reject .truncated

/-- The opcode of a command (R60). -/
def Instr.opcode : Instr → Byte
  | .nop => 0x00#8
  | .rotr => 0x01#8
  | .packle _ => 0x02#8
  | .unpackle _ => 0x03#8
  | .revb => 0x04#8
  | .seedPwd => 0x10#8
  | .seedKey _ => 0x11#8
  | .mix _ => 0x20#8
  | .scramble _ => 0x21#8
  | .derivePwd => 0x22#8
  | .deriveKey => 0x23#8
  | .teaEnc => 0x30#8
  | .teaDec => 0x31#8

/-- A command word from its fields: 19 zeros, IMM5, OP (R57). -/
def assemble (op : Byte) (imm : Nat) : Word := 0#19 ++ BitVec.ofNat 5 imm ++ op

/-- The command word of an instruction (R60). A well-formed instruction's immediate fits IMM5. -/
def encode (i : Instr) : Word := assemble i.opcode i.imm

/-- The four bytes of a command word as the bus stores them (R43). -/
def wordBytes (w : Word) : List Byte := [byteOf w 0, byteOf w 1, byteOf w 2, byteOf w 3]

/-- The command the decoder reads from a table word, numbered as the opcode table numbers its bits:
every bit above `nbits` is 0. -/
def decodeTableWord (nbits w : Nat) : Option Instr :=
  match decodeBytes (wordBytes (BitVec.ofNat 32 (w % 2 ^ nbits))) with
  | .instr i => some i
  | .reject _ => none

end Sys2Proof
end

