-- ==== Sys2Proof/Machine/HostProgram.lean ====
section
/-! DEFINITION. The host agent: its variables and expressions, one statement of its program
(30_encoding.md R65), and the pseudo-instructions and macros (R67 to R71). -/

namespace Sys2Proof.Machine

/-! Host variables: a list of (number, value), numbers strictly rising, no value 0; an unlisted
variable reads 0 (log entry 9). -/

/-- The value of a host variable. -/
def varGet : List (Nat × Word) → Nat → Word
  | [], _ => 0#32
  | (k, v) :: rest, x => if k = x then v else varGet rest x

/-- A host variable set, in the canonical form. -/
def varSet : List (Nat × Word) → Nat → Word → List (Nat × Word)
  | [], x, v => if v = 0#32 then [] else [(x, v)]
  | (k, u) :: rest, x, v =>
    if x < k then (if v = 0#32 then (k, u) :: rest else (x, v) :: (k, u) :: rest)
    else if x = k then (if v = 0#32 then rest else (x, v) :: rest)
    else (k, u) :: varSet rest x v

/-- The canonical form: numbers strictly rising, no value 0. -/
def varsWf : List (Nat × Word) → Bool
  | [] => true
  | (_, v) :: [] => !(v == 0#32)
  | (k, v) :: (k', v') :: rest => !(v == 0#32) && decide (k < k') && varsWf ((k', v') :: rest)

/-- Host-side arithmetic (R12, R65; log entry 10). -/
def evalExpr (vars : List (Nat × Word)) : Expr → Word
  | .const v => v
  | .var x => varGet vars x
  | .add a b => evalExpr vars a + evalExpr vars b
  | .sub a b => evalExpr vars a - evalExpr vars b
  | .and a b => evalExpr vars a &&& evalExpr vars b
  | .or a b => evalExpr vars a ||| evalExpr vars b
  | .xor a b => evalExpr vars a ^^^ evalExpr vars b
  | .shl a n => evalExpr vars a <<< n
  | .shr a n => evalExpr vars a >>> n

/-- The host's conditions (R65). -/
def evalCond (vars : List (Nat × Word)) : Cond → Bool
  | .eq a b => evalExpr vars a == evalExpr vars b
  | .ne a b => !(evalExpr vars a == evalExpr vars b)
  | .bitSet a k => (evalExpr vars a).getLsbD k

/-- The host goes on to its next statement. -/
def State.hostNext (s : State) : State := s.setHostPos (s.hostPos + 1)

/-- The host branches `d` statements from the present one; a target before the program is its start
(log entry 10). -/
def State.hostJump (s : State) (d : Int) : State := s.setHostPos (Int.toNat (s.hostPos + d))

/-- `x <- v` for a host variable. -/
def State.setVar (s : State) (x : Nat) (v : Word) : State := s.setHostVars (varSet s.hostVars x v)

/-- `x <- MemRead(BASE + off, 4)`. -/
def doRead (off x : Nat) (s : State) : Result :=
  .next ((hostRead off s).2.setVar x (hostRead off s).1).hostNext

/-- `MemWrite(BASE + off, 4, v)`. -/
def doWrite (off : Nat) (v : Word) (s : State) : Result := mapNext State.hostNext (hostWrite off v s)

/-- One host statement (R65). An access that is not accepted is the host fault BUS_REJECT (R44). -/
def runStmt (st : HostStmt) (s : State) : Result :=
  match st with
  | .wr r v => doWrite (regOffset r) (evalExpr s.hostVars v) s
  | .rd r x => doRead (regOffset r) x s
  | .command i => doWrite 0x00 (encode i) s
  | .busWrite addr bytes v =>
    match acceptedOffset addr bytes with
    | some off => doWrite off (evalExpr s.hostVars v) s
    | none => .fault .busReject
  | .busRead addr bytes x =>
    match acceptedOffset addr bytes with
    | some off => doRead off x s
    | none => .fault .busReject
  | .assign x e => .next (s.setVar x (evalExpr s.hostVars e)).hostNext
  | .branch c d => .next (if evalCond s.hostVars c then s.hostJump d else s.hostNext)

/-- The statement the host performs next; `none` when its program has ended. -/
def State.hostStmt? (s : State) : Option HostStmt := s.hostProg[s.hostPos]?

/-- The host's step. A host whose program has ended does nothing (R118, R127; log entry 12). -/
def hostStep (s : State) : Result :=
  match s.hostStmt? with
  | some st => runStmt st s
  | none => .next s

/-! The bus transactions of a host program (R66). -/

/-- `W off v` and `R off` (R66). -/
inductive Transaction where
  | write (off : Nat) (v : Word)
  | read (off : Nat)
deriving DecidableEq, Repr

/-- The transaction a statement performs, given the host's variables; `none` for host-side arithmetic
and control flow, and for an access that is not accepted (R65, R66). -/
def transactionOf (vars : List (Nat × Word)) : HostStmt → Option Transaction
  | .wr r v => some (.write (regOffset r) (evalExpr vars v))
  | .rd r _ => some (.read (regOffset r))
  | .command i => some (.write 0x00 (encode i))
  | .busWrite addr bytes v => (acceptedOffset addr bytes).map fun off => .write off (evalExpr vars v)
  | .busRead addr bytes _ => (acceptedOffset addr bytes).map fun off => .read off
  | .assign _ _ => none
  | .branch _ _ => none

/-- The encoding of a program as it is written (R66): the transactions of its statements in program
order, for the given host variables. It is the whole encoding of a program without branches whose values
are constants; a `wait` counts as one read. What any program performs, loops and values read included,
is `transactionsOfRun`. -/
def programTransactions (vars : List (Nat × Word)) (prog : List HostStmt) : List Transaction :=
  prog.filterMap (transactionOf vars)

/-! Pseudo-instructions and macros. The host variables `$s`, `$t`, `$a`, `$b` of their expansions are
numbers 0 to 3 (log entry 18). -/

/-- `$s` of `wait` (R67). -/
def varS : Nat := 0
/-- `$t` of `mv` (R68). -/
def varT : Nat := 1
/-- `$a` of DECREC (R71). -/
def varA : Nat := 2
/-- `$b` of DECREC (R71). -/
def varB : Nat := 3

/-- `wait` (R67): read STATUS until bit 0 is 0. -/
def waitStmts : List HostStmt := [.rd .status varS, .branch (.bitSet (.var varS) 0) (-1)]

/-- `mv DST, SRC` (R68). -/
def mvStmts (dst src : Reg) : List HostStmt := [.rd src varT, .wr dst (.var varT)]

/-- `setuid b0 .. b6` (R69). -/
def setuidStmts (b : Vector Byte 7) : List HostStmt :=
  [.wr .uid0 (.const (packLE b[0] b[1] b[2] b[3])), .wr .uid1 (.const (packLE b[4] b[5] b[6] 0#8))]

/-- `mv OPA, SRC ; REVB ; wait ; mv DST, RESULT`, the step ENCREC and DECREC repeat (R70, R71). -/
def revbRegStmts (dst src : Reg) : List HostStmt :=
  List.flatten [mvStmts .opa src, [.command .revb], waitStmts, mvStmts dst .result]

/-- `DERIVE_KEY ; wait`, then each key word reversed again (R70, R71, step 1 and 2). -/
def rawKeyStmts : List HostStmt :=
  List.flatten
    [[.command .deriveKey], waitStmts,
      revbRegStmts (.key 0) (.key 0), revbRegStmts (.key 1) (.key 1),
      revbRegStmts (.key 2) (.key 2), revbRegStmts (.key 3) (.key 3)]

/-- `ENCREC $id -> $r0, $r1` (R70). -/
def encrecStmts (id : Expr) (r0 r1 : Nat) : List HostStmt :=
  List.flatten
    [rawKeyStmts,
      [.wr .v0 id, .wr .v1 id, .command .teaEnc], waitStmts,
      mvStmts .opa .v0, [.command .revb], waitStmts, [.rd .result r0],
      mvStmts .opa .v1, [.command .revb], waitStmts, [.rd .result r1]]

/-- Step 4 of DECREC: `if $a = $b then { $ok <- 1 ; $id <- $a } else { $ok <- 0 }` (R71). -/
def checkPairStmts (ok id : Nat) : List HostStmt :=
  [.branch (.ne (.var varA) (.var varB)) 4,
    .assign ok (.const 1#32), .assign id (.var varA), .branch (.eq (.const 0#32) (.const 0#32)) 2,
    .assign ok (.const 0#32)]

/-- `DECREC $r0, $r1 -> $ok, $id` (R71). -/
def decrecStmts (r0 r1 : Expr) (ok id : Nat) : List HostStmt :=
  List.flatten
    [rawKeyStmts,
      [.wr .opa r0, .command .revb], waitStmts, mvStmts .v0 .result,
      [.wr .opa r1, .command .revb], waitStmts, mvStmts .v1 .result,
      [.command .teaDec], waitStmts, [.rd .v0 varA, .rd .v1 varB],
      checkPairStmts ok id]

end Sys2Proof.Machine
end

