-- ==== Sys2Proof/Machine/Engine.lean ====
section
/-! DEFINITION. The engine's complete step (10_state.md R37), and which agent moves next (00_scope.md
R17, 20_memory.md R51, 70_reset_and_hazards.md R122). -/

namespace Sys2Proof.Machine

/-- The complete step: decode `R[CMD]` in the order of R61, then the command's own rule, or
ILLEGAL_COMMAND (R61, R101). -/
def complete (s : State) : Result :=
  match decode s.cmd with
  | .instr i => exec i s
  | .reject _ => .next (s.raise .illegalCommand)

/-- The next step of the two agents. A busy engine completes when its drawn latency has run out; until
then the host goes on, one statement at a time; when the host has no statement left, the engine
completes, for its step is never withheld for ever (R122; log entries 1, 2). -/
def agentStep (s : State) : Result :=
  match s.engine with
  | .idle => hostStep s
  | .busy _ 0 => complete s
  | .busy w (n + 1) =>
    match s.hostStmt? with
    | some _ => hostStep (s.setEngine (.busy w n))
    | none => complete s

/-- The state in which the engine is about to complete the command word that a table word stands for:
a host wrote it to CMD, it was accepted, and its latency has run out (R20, R37; log entry 17). -/
def State.withCommand (s : State) (w : Word) : State :=
  { s with cmd := w, status := statusAccept s.status, engine := .busy w 0, resetIn := false }

end Sys2Proof.Machine
end

