-- ==== Sys2Proof/Machine/Step.lean ====
section
/-! DEFINITION. One step of the machine. -/

namespace Sys2Proof.Machine

/-- One step: a pulse on the reset input is taken first (R116, R117; log entry 11); else one of the two
agents moves. -/
def step (s : State) : Host.Outcome State Fault Refusal :=
  if s.resetIn then .next s.blockReset else agentStep s

/-- `s` with the table word `w` of `nbits` bits as the command the very next step runs (log entry 17). -/
def State.withFetchWord (s : State) (nbits w : Nat) : State :=
  s.withCommand (BitVec.ofNat 32 (w % 2 ^ nbits))

end Sys2Proof.Machine
end

