-- ==== Sys2Proof/Machine/Transactions.lean ====
section
/-! DEFINITION. The encoding of a host program (30_encoding.md R66): the list of bus transactions that
it performs, in program order, with the values it writes. -/

namespace Sys2Proof.Machine

/-- The host statement the next step performs; `none` when that step is a reset, a complete step, or
nothing (R17, R51). -/
def State.nextStmt? (s : State) : Option HostStmt :=
  if s.resetIn then none
  else match s.engine with
    | .busy _ 0 => none
    | .idle | .busy _ (_ + 1) => s.hostStmt?

/-- The bus transaction of the next step (R66). -/
def State.transaction? (s : State) : Option Transaction := s.nextStmt?.bind (transactionOf s.hostVars)

/-- The transactions of the first `k` steps from `s`, in program order (R66). A write that turns out to
be the host hazard is the last one listed (R124; log entry 20). -/
def transactionsOfRun : Nat → State → List Transaction
  | 0, _ => []
  | k + 1, s => s.transaction?.toList ++
    match step s with
    | .next t => transactionsOfRun k t
    | .fault _ => []
    | .refused _ => []

end Sys2Proof.Machine
end

