-- ==== Sys2Proof/Safety.lean ====
section
/-! DEFINITION. What a legal state of the machine is, and what a safe run is. -/

namespace Sys2Proof.Machine

/-- The engine is `Busy(w)` for some w (R37). -/
def Engine.isBusy : Engine → Bool
  | .idle => false
  | .busy _ _ => true

/-- The word a busy engine performs is the one CMD holds (R20, R37, R61). -/
def Engine.holds (e : Engine) (cmd : Word) : Bool :=
  match e with
  | .idle => true
  | .busy w _ => w == cmd

/-- The STATUS invariants of R22 that speak of one state, with the reserved ERRCODE values of R21 never
present. -/
abbrev State.StatusLegal (s : State) : Prop :=
  statusBusy s.status = s.engine.isBusy ∧
  (statusDone s.status = true → statusBusy s.status = false) ∧
  (statusErr s.status = true ↔ statusErrCode s.status ≠ 0#4) ∧
  statusErrCode s.status ≤ 2#4

/-- A legal state: R22's invariants, CMD holding the pending command, the host's variables in their
canonical form. -/
abbrev State.Legal (s : State) : Prop :=
  s.StatusLegal ∧ s.engine.holds s.cmd = true ∧ varsWf s.hostVars = true

/-- `n` steps from `s` stop at no fault and no refusal. -/
def RunsFor (n : Nat) (s : State) : Prop := ∃ t, Sys2Proof.core.run n s = .next t

end Sys2Proof.Machine
end

