-- ==== Sys2Proof/Certificates/Slice0/Obligations.lean ====
section
/-! DEFINITION. The statements about the machine, and the words they are written in. Each obligation's
docstring says which rules of spec/ it formalises; the ones that rest on a choice of the model say so. -/

namespace Sys2Proof.Claims

open Sys2Proof.Machine

/-- The engine is about to complete the command word `w` (R37, R122): it was accepted and its latency
has run out. -/
abbrev Ready (s : State) (w : Word) : Prop :=
  s.resetIn = false ∧ s.cmd = w ∧ s.engine = .busy w 0

/-- The five fields of STATUS (R21). -/
abbrev StatusIs (t : State) (busy done err sticky : Bool) (code : Nat) : Prop :=
  statusBusy t.status = busy ∧ statusDone t.status = done ∧ statusErr t.status = err ∧
    statusSticky t.status = sticky ∧ (statusErrCode t.status).toNat = code

/-- Every register of the window but STATUS and those listed reads as before (R19). -/
abbrev SameRegsBut (outs : List Reg) (s t : State) : Prop :=
  ∀ r : Reg, r ≠ .status → r ∉ outs → t.read r = s.read r

/-- The host, the reset input and the draw counter are as before. -/
abbrev SameOutside (s t : State) : Prop :=
  t.hostProg = s.hostProg ∧ t.hostPos = s.hostPos ∧ t.hostVars = s.hostVars ∧
    t.resetIn = s.resetIn ∧ t.draws = s.draws

/-- A command ends without error (R23), the engine is idle (R37), and nothing but the registers listed
has changed. -/
abbrev EndsOk (outs : List Reg) (s t : State) : Prop :=
  StatusIs t false true false (statusSticky s.status) 0 ∧ t.engine = .idle ∧
    SameRegsBut outs s t ∧ SameOutside s t

/-- A command ends with the error of code `code` (R23, R99), and nothing but STATUS and the engine has
changed (R102). -/
abbrev EndsError (code : Nat) (s t : State) : Prop :=
  StatusIs t false true true true code ∧ t.engine = .idle ∧ SameRegsBut [] s t ∧ SameOutside s t

/-- The eight seed registers (R32). -/
abbrev seedRegs : List Reg :=
  [.seed 0, .seed 1, .seed 2, .seed 3, .seed 4, .seed 5, .seed 6, .seed 7]

/-- The registers of the key seed buffer, bytes 0 to 23 (R86). -/
abbrev keySeedRegs : List Reg := [.seed 0, .seed 1, .seed 2, .seed 3, .seed 4, .seed 5]

/-- The errors of an opcode that takes no immediate: a word with IMM5 or RSV not zero completes with
ILLEGAL_COMMAND (R61). -/
abbrev IllegalWithExtraBits (op : Byte) : Prop :=
  ∀ (s : State) (w : Word), Ready s w → w.extractLsb' 0 8 = op →
    (w.extractLsb' 8 5 ≠ 0#5 ∨ w.extractLsb' 13 19 ≠ 0#19) → ∃ t, step s = .next t ∧ EndsError 2 s t

/-- The errors of an opcode with an immediate: a word with RSV not zero completes with
ILLEGAL_COMMAND (R61). -/
abbrev IllegalWithReservedBits (op : Byte) : Prop :=
  ∀ (s : State) (w : Word), Ready s w → w.extractLsb' 0 8 = op → w.extractLsb' 13 19 ≠ 0#19 →
    ∃ t, step s = .next t ∧ EndsError 2 s t

/-- An argument above `max` completes with INVALID_ARGUMENT and no other effect (R100, R102). -/
abbrev InvalidAbove (mk : Nat → Instr) (max : Nat) : Prop :=
  ∀ (n : Nat) (s : State), max < n → ∃ t, exec (mk n) s = .next t ∧ EndsError 1 s t

/-- The command word of an opcode with an immediate: `op | imm << 8` (R60). -/
abbrev WordWithImm (mk : Nat → Instr) (op : Word) : Prop :=
  ∀ n, n ≤ 31 → encode (mk n) = op ||| (BitVec.ofNat 32 n) <<< 8

/-- `uid[k]`, k = 0 to 6, read from the bytes of UID0 and UID1 (R24). -/
abbrev uidByte (s : State) (k : Nat) : Byte :=
  if k < 4 then byteOf (s.read .uid0) k else byteOf (s.read .uid1) (k - 4)

/-- Byte `i` of the password seed buffer (R85). -/
abbrev pwdSeedByte (pad : Vector Byte 32) (uid : Nat → Byte) (i : Fin 32) : Byte :=
  if i.val < 7 then uid i.val else if i.val < 30 then pad[i] else 0xAA#8

/-- Byte `i`, 0 to 23, of the key seed buffer for `count` (R86): the sentinel wins over the UID, the UID
over the pad. -/
abbrev keySeedByte (pad : Vector Byte 24) (uid : Nat → Byte) (count : Nat) (i : Fin 24) : Byte :=
  if 1 ≤ count ∧ i.val = 4 * count - 1 then 0xAA#8 else if i.val < 7 then uid i.val else pad[i]

/-- The opcodes of R60 that take no immediate. -/
abbrev plainOps : List Nat := [0x00, 0x01, 0x04, 0x10, 0x22, 0x23, 0x30, 0x31]

/-- The opcode of a word, bits 7:0 (R57). -/
abbrev opOf (w : Word) : Nat := (w.extractLsb' 0 8).toNat

/-- The immediate of a word, bits 12:8 (R57, R58). -/
abbrev immOf (w : Word) : Nat := (w.extractLsb' 8 5).toNat

/-- The words that R62 lists as illegal, by its own ranges of opcode values. -/
abbrev IllegalWord (w : Word) : Prop :=
  w.extractLsb' 13 19 ≠ 0#19 ∨
  ((0x05 ≤ opOf w ∧ opOf w ≤ 0x0F) ∨ (0x12 ≤ opOf w ∧ opOf w ≤ 0x1F) ∨
    (0x24 ≤ opOf w ∧ opOf w ≤ 0x2F) ∨ (0x32 ≤ opOf w ∧ opOf w ≤ 0xFF)) ∨
  (opOf w ∈ plainOps ∧ w.extractLsb' 8 5 ≠ 0#5)

/-- The words that R63 and R100 give an argument out of range. -/
abbrev BadArgument (w : Word) : Prop :=
  w.extractLsb' 13 19 = 0#19 ∧
  (((opOf w = 0x02 ∨ opOf w = 0x03) ∧ 29 ≤ immOf w) ∨ (opOf w = 0x20 ∧ 9 ≤ immOf w) ∨
    ((opOf w = 0x11 ∨ opOf w = 0x21) ∧ 7 ≤ immOf w))

/-- The reserved offsets of the window (R33). -/
abbrev reservedOffsets : List Nat :=
  [0x38, 0x3C, 0x60, 0x64, 0x68, 0x6C, 0x70, 0x74, 0x78, 0x7C]

/-- The host's next statement writes STATUS with bit 3 set (R21, R66). -/
abbrev HostClearsSticky (s : State) : Prop :=
  ∃ st v, s.hostStmt? = some st ∧ transactionOf s.hostVars st = some (.write 0x04 v) ∧ v.getLsbD 3 = true

/-- The candidate PWD_PAD of 93_implementation_defined.md I1, from general knowledge, not from the
source. -/
abbrev candidatePwdPad : Vector Byte 32 :=
  #v[0x55#8, 0x55#8, 0x55#8, 0x55#8, 0x55#8, 0x55#8, 0x55#8, 0x28#8, 0x63#8, 0x29#8, 0x20#8, 0x43#8,
    0x6F#8, 0x70#8, 0x79#8, 0x72#8, 0x69#8, 0x67#8, 0x68#8, 0x74#8, 0x20#8, 0x4C#8, 0x45#8, 0x47#8,
    0x4F#8, 0x20#8, 0x32#8, 0x30#8, 0x31#8, 0x34#8, 0x41#8, 0x41#8]

/-- The candidate KEY_PAD of 93_implementation_defined.md I2, from general knowledge, not from the
source. -/
abbrev candidateKeyPad : Vector Byte 24 :=
  #v[0xFF#8, 0xFF#8, 0xFF#8, 0xFF#8, 0xFF#8, 0xFF#8, 0xFF#8, 0xB7#8, 0xD5#8, 0xD7#8, 0xE6#8, 0xE7#8,
    0xBA#8, 0x3C#8, 0xA8#8, 0xD8#8, 0x75#8, 0x47#8, 0x68#8, 0xCF#8, 0x23#8, 0xE9#8, 0xFE#8, 0xAA#8]

/-- The UID 04 11 22 33 44 55 66 of the spec's examples. -/
abbrev exampleUid : Vector Byte 7 := #v[0x04#8, 0x11#8, 0x22#8, 0x33#8, 0x44#8, 0x55#8, 0x66#8]

end Sys2Proof.Claims

open Sys2Proof Sys2Proof.Machine Sys2Proof.Claims

/-! ## Encoding -/

/-- Every well-formed command decodes back from its own word (R57, R58, R60, R61). -/
def Obligations.EncodeThenDecode : Prop :=
  ∀ i : Instr, i.wellFormed = true → decode (encode i) = .instr i

/-- A word that decodes has one command, well formed, whose word it is (R57 to R61). -/
def Obligations.DecodeThenEncode : Prop :=
  ∀ (w : Word) (i : Instr), decode w = .instr i → i.wellFormed = true ∧ encode i = w

/-- The complete command words of R60's list. -/
def Obligations.CommandWordsOfTheOpcodeMap : Prop :=
  encode .nop = 0x00000000#32 ∧ encode .rotr = 0x00000001#32 ∧ WordWithImm .packle 0x00000002#32 ∧
  WordWithImm .unpackle 0x00000003#32 ∧ encode .revb = 0x00000004#32 ∧ encode .seedPwd = 0x00000010#32 ∧
  WordWithImm .seedKey 0x00000011#32 ∧ WordWithImm .mix 0x00000020#32 ∧
  WordWithImm .scramble 0x00000021#32 ∧ encode .derivePwd = 0x00000022#32 ∧
  encode .deriveKey = 0x00000023#32 ∧ encode .teaEnc = 0x00000030#32 ∧ encode .teaDec = 0x00000031#32

/-- A few words written out from R60 decode to the commands they stand for, and V-DEC-3, V-DEC-5 of
95_test_vectors.md are rejected. -/
def Obligations.SpecWordsDecode : Prop :=
  decode 0x00000001#32 = .instr .rotr ∧ decode 0x00001C02#32 = .instr (.packle 28) ∧
  decode 0x00000820#32 = .instr (.mix 8) ∧ decode 0x00000621#32 = .instr (.scramble 6) ∧
  decode 0x00000022#32 = .instr .derivePwd ∧ decode 0x00000031#32 = .instr .teaDec ∧
  decode 0x00000005#32 = .reject .undefinedOpcode ∧ decode 0x00002020#32 = .reject .reservedBits

/-- R62: the words it lists are the words that decode to no command, and each completes with
ILLEGAL_COMMAND and changes no register other than STATUS. -/
def Obligations.IllegalWordsCompleteWithIllegalCommand : Prop :=
  ∀ w : Word,
    (IllegalWord w ↔ ∀ i, decode w ≠ .instr i) ∧
    (IllegalWord w → ∀ s : State, Ready s w → ∃ t, step s = .next t ∧ EndsError 2 s t)

/-- R61, R63, R99 to R103, R106: a command word completes always; with ILLEGAL_COMMAND if it is illegal,
else by its command's own rule: with INVALID_ARGUMENT if its argument is out of range, else without
error. -/
def Obligations.EveryWordCompletesWithItsOwnError : Prop :=
  ∀ (s : State) (w : Word), Ready s w →
    ∃ t, step s = .next t ∧ t.engine = .idle ∧
      (IllegalWord w → EndsError 2 s t) ∧
      (¬IllegalWord w → BadArgument w → EndsError 1 s t) ∧
      (¬IllegalWord w → ∃ i, decode w = .instr i ∧ exec i s = .next t) ∧
      (¬IllegalWord w → ¬BadArgument w → StatusIs t false true false (statusSticky s.status) 0)

/-! ## The pure functions -/

/-- R72: bit j of the result is bit (j + a) mod 32 of the value, a the amount modulo 32; amounts 0 and
32 are the identity. -/
def Obligations.RotateRightBits : Prop :=
  ∀ (v : Word) (amount : Byte),
    (∀ j, j < 32 → (rotr v amount).getLsbD j = v.getLsbD ((j + amount.toNat % 32) % 32)) ∧
    rotr v 0#8 = v ∧ rotr v 32#8 = v

/-- R73, R74: byte 0 is least significant, and the two functions are inverse to each other. -/
def Obligations.PackAndUnpackLittleEndian : Prop :=
  (∀ b0 b1 b2 b3 : Byte,
    (packLE b0 b1 b2 b3).toNat = b0.toNat + 2 ^ 8 * b1.toNat + 2 ^ 16 * b2.toNat + 2 ^ 24 * b3.toNat ∧
    unpackLE (packLE b0 b1 b2 b3) = #v[b0, b1, b2, b3]) ∧
  (∀ v : Word, packLE (unpackLE v)[0] (unpackLE v)[1] (unpackLE v)[2] (unpackLE v)[3] = v)

/-- R75: byte k of the result is byte 3 - k of the word; twice is the identity. -/
def Obligations.ReverseBytesSwapsAndUndoes : Prop :=
  ∀ v : Word,
    (∀ k, k < 4 → (revb v).extractLsb' (8 * k) 8 = v.extractLsb' (8 * (3 - k)) 8) ∧ revb (revb v) = v

/-- R81: the mixer's result is the last value of the accumulator sequence, and it reads only
`seed[0..4n]`. -/
def Obligations.MixerFollowsItsRecurrence : Prop :=
  ∀ (buf : SeedBuffer) (n : Nat), n ≤ 8 →
    (∃ acc : Nat → Word, acc 0 = 0#32 ∧ acc n = mix buf n ∧
      ∀ i, i < n → acc (i + 1) =
        packLE (seedByte buf (4 * i)) (seedByte buf (4 * i + 1)) (seedByte buf (4 * i + 2))
            (seedByte buf (4 * i + 3))
          + (acc i).rotateRight 25 + (acc i).rotateRight 10 - acc i) ∧
    (∀ buf' : SeedBuffer, (∀ j, j < 4 * n → seedByte buf' j = seedByte buf j) → mix buf' n = mix buf n)

/-- R84: the mixer's prefix property, with the words of the seed registers, and its independence of the
bytes at 4n and above. -/
def Obligations.MixerPrefixProperty : Prop :=
  ∀ s : State,
    (∀ n : Fin 8, mix s.seed (n.val + 1) =
      s.read (.seed n) + rotr (mix s.seed n.val) 25#8 + rotr (mix s.seed n.val) 10#8 - mix s.seed n.val) ∧
    (∀ n j (b : Byte), 4 * n ≤ j → j < 32 → mix (overwrite s.seed j #v[b]) n = mix s.seed n)

/-- R85: the password seed buffer, whatever the buffer held before. -/
def Obligations.PasswordSeedBufferBytes : Prop :=
  ∀ (pad : Vector Byte 32) (uid : Vector Byte 7) (buf : SeedBuffer) (i : Fin 32),
    (Machine.seedPwd pad uid buf)[i] =
      if h : i.val < 7 then uid[i.val] else if i.val < 30 then pad[i] else 0xAA#8

/-- R86: the key seed buffer for counts 0 to 6; bytes 24 to 31 are kept. -/
def Obligations.KeySeedBufferBytes : Prop :=
  ∀ (pad : Vector Byte 24) (uid : Vector Byte 7) (buf : SeedBuffer) (count : Nat), count ≤ 6 →
    (∀ i : Fin 24, seedByte (Machine.seedKey pad uid count buf) i.val =
      if 1 ≤ count ∧ i.val = 4 * count - 1 then 0xAA#8
      else if h : i.val < 7 then uid[i.val] else pad[i]) ∧
    (∀ i, 24 ≤ i → i < 32 → seedByte (Machine.seedKey pad uid count buf) i = seedByte buf i)

/-- R94: 32 rounds, the sum of round r being r * delta, 0xC6EF3720 in the last; in a round v1 uses the
v0 just computed. -/
def Obligations.TeaEncryptFollowsItsRounds : Prop :=
  ∀ (k : Vector Word 4) (x y : Word),
    ∃ a b : Nat → Word, a 0 = x ∧ b 0 = y ∧ teaEncrypt k x y = (a 32, b 32) ∧
      BitVec.ofNat 32 32 * 0x9E3779B9#32 = 0xC6EF3720#32 ∧
      ∀ r, r < 32 →
        (let sum : Word := BitVec.ofNat 32 (r + 1) * 0x9E3779B9#32
         a (r + 1) = a r + (((b r <<< 4) + k[0]) ^^^ (b r + sum) ^^^ ((b r >>> 5) + k[1])) ∧
         b (r + 1) = b r +
           (((a (r + 1) <<< 4) + k[2]) ^^^ (a (r + 1) + sum) ^^^ ((a (r + 1) >>> 5) + k[3])))

/-- R95: 32 rounds from sum 0xC6EF3720 down by delta; in a round v1 is undone before v0. -/
def Obligations.TeaDecryptFollowsItsRounds : Prop :=
  ∀ (k : Vector Word 4) (x y : Word),
    ∃ a b : Nat → Word, a 0 = x ∧ b 0 = y ∧ teaDecrypt k x y = (a 32, b 32) ∧
      ∀ r, r < 32 →
        (let sum : Word := 0xC6EF3720#32 - BitVec.ofNat 32 r * 0x9E3779B9#32
         b (r + 1) = b r - (((a r <<< 4) + k[2]) ^^^ (a r + sum) ^^^ ((a r >>> 5) + k[3])) ∧
         a (r + 1) = a r -
           (((b (r + 1) <<< 4) + k[0]) ^^^ (b (r + 1) + sum) ^^^ ((b (r + 1) >>> 5) + k[1])))

/-- R98: decrypt undoes encrypt on every block under every key, and encrypt undoes decrypt; and so on
the machine, for TEA_ENC then TEA_DEC. -/
def Obligations.TeaDecryptInvertsEncrypt : Prop :=
  (∀ (k : Vector Word 4) (x y : Word),
    teaDecrypt k (teaEncrypt k x y).1 (teaEncrypt k x y).2 = (x, y) ∧
    teaEncrypt k (teaDecrypt k x y).1 (teaDecrypt k x y).2 = (x, y)) ∧
  (∀ s : State, ∃ t u, exec .teaEnc s = .next t ∧ exec .teaDec t = .next u ∧
    u.read .v0 = s.read .v0 ∧ u.read .v1 = s.read .v1)

/-! ## The commands: word, effect and frame, errors, corner cases, example -/

/-- R76: NOP. The last clause is the example: the complete step of a NOP accepted from reset leaves
STATUS 0x00000002 and every other register 0. -/
def Obligations.NopOnlyCompletes : Prop :=
  encode .nop = 0x00000000#32 ∧
  (∀ s : State, ∃ t, exec .nop s = .next t ∧ EndsOk [] s t) ∧
  IllegalWithExtraBits 0x00#8 ∧
  (State.reset.cmd = encode .nop ∧ State.reset.engine = .idle) ∧
  (∃ t, complete (State.reset.accept 0x00000000#32) = .next t ∧ t.read .status = 0x00000002#32 ∧
    ∀ r : Reg, r ≠ .status → t.read r = 0#32)

/-- R77: ROTR. -/
def Obligations.RotrRotatesOpaByOpb : Prop :=
  encode .rotr = 0x00000001#32 ∧
  (∀ s : State, ∃ t, exec .rotr s = .next t ∧ EndsOk [.result] s t ∧
    t.read .result = rotr (s.read .opa) ((s.read .opb).extractLsb' 0 8) ∧
    ((s.read .opb).toNat % 256 % 32 = 0 → t.read .result = s.read .opa) ∧
    ((s.read .opb).toNat % 256 = 255 → t.read .result = (s.read .opa).rotateLeft 1) ∧
    (s.read .opb = 0x00000120#32 → t.read .result = s.read .opa) ∧
    (s.read .opa = 0x00000000#32 ∨ s.read .opa = 0xFFFFFFFF#32 → t.read .result = s.read .opa) ∧
    (s.read .opa = 0x12345678#32 → s.read .opb = 4#32 → t.read .result = 0x81234567#32)) ∧
  IllegalWithExtraBits 0x01#8

/-- R78: PACKLE. -/
def Obligations.PacklePacksFourSeedBytes : Prop :=
  WordWithImm .packle 0x00000002#32 ∧
  (∀ (off : Nat) (s : State), off ≤ 28 → ∃ t, exec (.packle off) s = .next t ∧ EndsOk [.result] s t ∧
    t.read .result = packLE (seedByte s.seed off) (seedByte s.seed (off + 1)) (seedByte s.seed (off + 2))
      (seedByte s.seed (off + 3)) ∧
    (∀ i : Fin 8, off = 4 * i.val → t.read .result = s.read (.seed i)) ∧
    (off = 1 → s.read (.seed 0) = 0x04030201#32 → s.read (.seed 1) = 0x08070605#32 →
      t.read .result = 0x05040302#32)) ∧
  InvalidAbove .packle 28 ∧ IllegalWithReservedBits 0x02#8

/-- R79: UNPACKLE; every seed byte outside `off..off+4` is kept, and PACKLE of the same offset gives OPA
back. -/
def Obligations.UnpackleWritesFourSeedBytes : Prop :=
  WordWithImm .unpackle 0x00000003#32 ∧
  (∀ (off : Nat) (s : State), off ≤ 28 → ∃ t, exec (.unpackle off) s = .next t ∧ EndsOk seedRegs s t ∧
    (∀ k : Fin 4, seedByte t.seed (off + k.val) = (s.read .opa).extractLsb' (8 * k.val) 8) ∧
    (∀ j, ¬(off ≤ j ∧ j < off + 4) → seedByte t.seed j = seedByte s.seed j) ∧
    (∃ u, exec (.packle off) t = .next u ∧ u.read .result = s.read .opa) ∧
    (off = 2 → s.seed = Vector.replicate 32 0#8 → s.read .opa = 0xDDCCBBAA#32 →
      t.read (.seed 0) = 0xBBAA0000#32 ∧ t.read (.seed 1) = 0x0000DDCC#32)) ∧
  InvalidAbove .unpackle 28 ∧ IllegalWithReservedBits 0x03#8

/-- R80: REVB. -/
def Obligations.RevbReversesOpa : Prop :=
  encode .revb = 0x00000004#32 ∧
  (∀ s : State, ∃ t, exec .revb s = .next t ∧ EndsOk [.result] s t ∧
    t.read .result = revb (s.read .opa) ∧
    ((s.read .opa).extractLsb' 0 8 = (s.read .opa).extractLsb' 24 8 →
      (s.read .opa).extractLsb' 8 8 = (s.read .opa).extractLsb' 16 8 → t.read .result = s.read .opa) ∧
    (∀ u v, u.read .opa = t.read .result → exec .revb u = .next v → v.read .result = s.read .opa) ∧
    (s.read .opa = 0x12345678#32 → t.read .result = 0x78563412#32)) ∧
  IllegalWithExtraBits 0x04#8

/-- R82: MIX. -/
def Obligations.MixFoldsTheSeedWords : Prop :=
  WordWithImm .mix 0x00000020#32 ∧
  (∀ (n : Nat) (s : State), n ≤ 8 → ∃ t, exec (.mix n) s = .next t ∧ EndsOk [.result] s t ∧
    t.read .result = mix s.seed n ∧
    (n = 0 → t.read .result = 0#32) ∧
    (s.seed = Vector.replicate 32 0#8 → t.read .result = 0#32) ∧
    (n = 1 → t.read .result = s.read (.seed 0)) ∧
    (n = 2 → s.read (.seed 0) = 0xFFFFFFFF#32 → s.read (.seed 1) = 0xFFFFFFFF#32 →
      t.read .result = 0xFFFFFFFE#32) ∧
    (∃ u, exec (.mix n) t = .next u ∧ u.read .result = t.read .result) ∧
    (n = 2 → s.read (.seed 0) = 0x03020100#32 → s.read (.seed 1) = 0x07060504#32 →
      t.read .result = 0xC5054485#32)) ∧
  InvalidAbove .mix 8 ∧ IllegalWithReservedBits 0x20#8

/-- R87: SEED_PWD. -/
def Obligations.SeedPwdBuildsThePasswordSeed : Prop :=
  encode .seedPwd = 0x00000010#32 ∧
  (∀ s : State, ∃ t, exec .seedPwd s = .next t ∧ EndsOk seedRegs s t ∧
    (∀ i : Fin 32, seedByte t.seed i.val = pwdSeedByte Config.pwdPad (uidByte s) i) ∧
    (s.uid = exampleUid →
      t.read (.seed 0) = 0x33221104#32 ∧
      t.read (.seed 1) = packLE 0x44#8 0x55#8 0x66#8 Config.pwdPad[7] ∧
      t.read (.seed 7) = packLE Config.pwdPad[28] Config.pwdPad[29] 0xAA#8 0xAA#8)) ∧
  IllegalWithExtraBits 0x10#8

/-- R88: SEED_KEY; SEED6 and SEED7 are kept. -/
def Obligations.SeedKeyBuildsTheKeySeed : Prop :=
  WordWithImm .seedKey 0x00000011#32 ∧
  (∀ (count : Nat) (s : State), count ≤ 6 →
    ∃ t, exec (.seedKey count) s = .next t ∧ EndsOk keySeedRegs s t ∧
      (∀ i : Fin 24, seedByte t.seed i.val = keySeedByte Config.keyPad (uidByte s) count i) ∧
      (count = 2 → s.uid = exampleUid →
        t.read (.seed 0) = 0x33221104#32 ∧ t.read (.seed 1) = 0xAA665544#32)) ∧
  InvalidAbove .seedKey 6 ∧ IllegalWithReservedBits 0x11#8

/-- R89: SCRAMBLE. A count of 2 depends on the UID and the sentinel alone; a greater one on the KEY_PAD
bytes 7 to 4*count - 2. -/
def Obligations.ScrambleMixesTheKeySeed : Prop :=
  WordWithImm .scramble 0x00000021#32 ∧
  (∀ (count : Nat) (s : State), count ≤ 6 →
    ∃ t, exec (.scramble count) s = .next t ∧ EndsOk (.result :: keySeedRegs) s t ∧
      (∀ i : Fin 24, seedByte t.seed i.val = keySeedByte Config.keyPad (uidByte s) count i) ∧
      t.read .result = mix t.seed count ∧
      (count = 0 → t.read .result = 0#32) ∧
      (count = 1 → t.read .result = packLE (uidByte s 0) (uidByte s 1) (uidByte s 2) 0xAA#8) ∧
      (count = 2 → t.read .result =
        mixStep (packLE (uidByte s 4) (uidByte s 5) (uidByte s 6) 0xAA#8) (s.read .uid0)) ∧
      (∃ u, exec (.mix count) t = .next u ∧ u.read .result = t.read .result) ∧
      (s.uid = exampleUid → (count = 1 → t.read .result = 0xAA221104#32) ∧
        (count = 2 → t.read .result = 0x49598EDD#32))) ∧
  (∀ (p q : Vector Byte 24) (uid : Vector Byte 7) (buf : SeedBuffer) (count : Nat), 3 ≤ count → count ≤ 6 →
    (∀ i : Fin 24, 7 ≤ i.val → i.val ≤ 4 * count - 2 → p[i] = q[i]) →
    mix (Machine.seedKey p uid count buf) count = mix (Machine.seedKey q uid count buf) count) ∧
  InvalidAbove .scramble 6 ∧ IllegalWithReservedBits 0x21#8

/-- R90: DERIVE_PWD. The example's pad is the candidate I1, not from the source; it is given to the
seed function as an argument. -/
def Obligations.DerivePwdMixesThePasswordSeed : Prop :=
  encode .derivePwd = 0x00000022#32 ∧
  (∀ s : State, ∃ t, exec .derivePwd s = .next t ∧ EndsOk (.result :: .pwd :: seedRegs) s t ∧
    (∀ i : Fin 32, seedByte t.seed i.val = pwdSeedByte Config.pwdPad (uidByte s) i) ∧
    t.read .result = mix t.seed 8 ∧ t.read .pwd = mix t.seed 8 ∧
    (∀ k : Fin 4, t.windowByte (0x1C + k.val) = (unpackLE (mix t.seed 8))[k])) ∧
  (∀ (p q : Vector Byte 32) (uid : Vector Byte 7) (b c : SeedBuffer),
    (∀ i : Fin 32, 7 ≤ i.val → i.val ≤ 29 → p[i] = q[i]) →
    mix (Machine.seedPwd p uid b) 8 = mix (Machine.seedPwd q uid c) 8) ∧
  (∀ buf : SeedBuffer, mix (Machine.seedPwd candidatePwdPad exampleUid buf) 8 = 0x1BA9AF85#32) ∧
  unpackLE 0x1BA9AF85#32 = #v[0x85#8, 0xAF#8, 0xA9#8, 0x1B#8] ∧
  IllegalWithExtraBits 0x22#8

/-- R91: DERIVE_KEY. Each scramble starts from a buffer of its own, the reversal is applied once, and
RESULT keeps the raw last scramble. The example's pad is the candidate I2, not from the source. -/
def Obligations.DeriveKeyReversesFourScrambles : Prop :=
  encode .deriveKey = 0x00000023#32 ∧
  (∀ s : State, ∃ t, exec .deriveKey s = .next t ∧
    EndsOk (.result :: .key 0 :: .key 1 :: .key 2 :: .key 3 :: keySeedRegs) s t ∧
    (∀ j : Fin 4, t.read (.key j) =
      revb (mix (Machine.seedKey Config.keyPad s.uid (3 + j.val) s.seed) (3 + j.val))) ∧
    t.read .result = mix (Machine.seedKey Config.keyPad s.uid 6 s.seed) 6 ∧
    (∀ i : Fin 24, seedByte t.seed i.val = keySeedByte Config.keyPad (uidByte s) 6 i)) ∧
  (∀ buf : SeedBuffer,
    mix (Machine.seedKey candidateKeyPad exampleUid 3 buf) 3 = 0x38AA4E06#32 ∧
    mix (Machine.seedKey candidateKeyPad exampleUid 4 buf) 4 = 0x8BC25C81#32 ∧
    mix (Machine.seedKey candidateKeyPad exampleUid 5 buf) 5 = 0xF2429C67#32 ∧
    mix (Machine.seedKey candidateKeyPad exampleUid 6 buf) 6 = 0x4ED050EE#32) ∧
  (revb 0x38AA4E06#32 = 0x064EAA38#32 ∧ revb 0x8BC25C81#32 = 0x815CC28B#32 ∧
    revb 0xF2429C67#32 = 0x679C42F2#32 ∧ revb 0x4ED050EE#32 = 0xEE50D04E#32) ∧
  IllegalWithExtraBits 0x23#8

/-- R96: TEA_ENC. -/
def Obligations.TeaEncEncryptsTheBlock : Prop :=
  encode .teaEnc = 0x00000030#32 ∧
  (∀ s : State, ∃ t, exec .teaEnc s = .next t ∧ EndsOk [.v0, .v1] s t ∧
    (t.read .v0, t.read .v1) =
      teaEncrypt #v[s.read (.key 0), s.read (.key 1), s.read (.key 2), s.read (.key 3)]
        (s.read .v0) (s.read .v1) ∧
    ((∀ j, s.read (.key j) = 0#32) → s.read .v0 = 0#32 → s.read .v1 = 0#32 →
      t.read .v0 = 0x41EA3A0A#32 ∧ t.read .v1 = 0x94BAA940#32)) ∧
  IllegalWithExtraBits 0x30#8

/-- R97: TEA_DEC. -/
def Obligations.TeaDecDecryptsTheBlock : Prop :=
  encode .teaDec = 0x00000031#32 ∧
  (∀ s : State, ∃ t, exec .teaDec s = .next t ∧ EndsOk [.v0, .v1] s t ∧
    (t.read .v0, t.read .v1) =
      teaDecrypt #v[s.read (.key 0), s.read (.key 1), s.read (.key 2), s.read (.key 3)]
        (s.read .v0) (s.read .v1) ∧
    ((∀ j, s.read (.key j) = 0#32) → s.read .v0 = 0x41EA3A0A#32 → s.read .v1 = 0x94BAA940#32 →
      t.read .v0 = 0#32 ∧ t.read .v1 = 0#32) ∧
    ((∀ j, s.read (.key j) = 0#32) → s.read .v0 = 0#32 → s.read .v1 = 0#32 →
      t.read .v0 = 0x1423FF6D#32 ∧ t.read .v1 = 0x9216EF3A#32)) ∧
  IllegalWithExtraBits 0x31#8

/-! ## Rules about all commands -/

/-- R19's last column, R24, R27, R28, R29: which command may change which register; no command changes
CMD, UID0, UID1, OPA or OPB, and PWD is written only by DERIVE_PWD. -/
def Obligations.CommandsWriteOnlyTheirDestinations : Prop :=
  ∀ (i : Instr) (s : State), ∃ t, exec i s = .next t ∧
    (∀ r : Reg, r ∈ [Reg.cmd, .uid0, .uid1, .opa, .opb] → t.read r = s.read r) ∧
    (t.read .pwd ≠ s.read .pwd → i = .derivePwd) ∧
    (∀ j, t.read (.key j) ≠ s.read (.key j) → i = .deriveKey) ∧
    (∀ r : Reg, r ∈ [Reg.v0, .v1] → t.read r ≠ s.read r → i = .teaEnc ∨ i = .teaDec) ∧
    (t.read .result ≠ s.read .result →
      i ∈ [Instr.rotr, .revb, .derivePwd, .deriveKey] ∨ ∃ n, i = .packle n ∨ i = .mix n ∨ i = .scramble n) ∧
    (t.seed ≠ s.seed →
      i ∈ [Instr.seedPwd, .derivePwd, .deriveKey] ∨ ∃ n, i = .unpackle n ∨ i = .seedKey n ∨ i = .scramble n)

/-- R92, R93: what SCRAMBLE, DERIVE_PWD and DERIVE_KEY derive is a function of the UID registers: two
states with the same UID, whatever else they hold, get the same values. -/
def Obligations.DerivedValuesDependOnTheUidAlone : Prop :=
  ∀ s s' : State, s'.read .uid0 = s.read .uid0 → s'.read .uid1 = s.read .uid1 →
    (∀ count, count ≤ 6 → ∃ t t', exec (.scramble count) s = .next t ∧
      exec (.scramble count) s' = .next t' ∧ t'.read .result = t.read .result) ∧
    (∃ t t', exec .derivePwd s = .next t ∧ exec .derivePwd s' = .next t' ∧
      t'.read .result = t.read .result ∧ t'.read .pwd = t.read .pwd) ∧
    (∃ t t', exec .deriveKey s = .next t ∧ exec .deriveKey s' = .next t' ∧
      t'.read .result = t.read .result ∧ ∀ j, t'.read (.key j) = t.read (.key j))

/-! ## STATUS and the engine -/

/-- R20: acceptance of a command by a write of CMD; an ill-formed word is accepted too, and completes
with an error; a read of CMD gives the last word accepted, since nothing else changes CMD; a write of CMD
while busy is the host hazard. -/
def Obligations.CmdWriteAcceptsACommand : Prop :=
  (∀ (s : State) (w : Word), statusBusy s.status = false →
    ∃ t, hostWrite 0x00 w s = .next t ∧ t.read .cmd = w ∧ (∃ n, t.engine = .busy w n) ∧
      StatusIs t true false false (statusSticky s.status) 0 ∧ SameRegsBut [.cmd] s t) ∧
  (∀ (s : State) (w : Word), IllegalWord w → Ready s w → ∃ t, step s = .next t ∧ EndsError 2 s t) ∧
  (∀ (i : Instr) (s : State), ∃ t, exec i s = .next t ∧ t.read .cmd = s.read .cmd) ∧
  (∀ (s t : State) (off : Nat) (w : Word), off ≠ 0x00 → hostWrite off w s = .next t →
    t.read .cmd = s.read .cmd) ∧
  (∀ s : State, hostRead 0x00 s = (s.read .cmd, s)) ∧
  State.reset.read .cmd = 0#32 ∧
  (∀ (s : State) (w : Word), statusBusy s.status = true → hostWrite 0x00 w s = .fault .hostHazard)

/-- R21: what a read of STATUS gives, and what a write of it does, busy or not. -/
def Obligations.StatusReadAndWrite : Prop :=
  ∀ s : State,
    ((s.read .status).getLsbD 0 = statusBusy s.status ∧ (s.read .status).getLsbD 1 = statusDone s.status ∧
      (s.read .status).getLsbD 2 = statusErr s.status ∧ (s.read .status).getLsbD 3 = statusSticky s.status ∧
      (s.read .status).extractLsb' 4 4 = statusErrCode s.status ∧ (s.read .status).extractLsb' 8 24 = 0#24) ∧
    hostRead 0x04 s = (s.read .status, s) ∧
    (∀ w : Word, ∃ t, hostWrite 0x04 w s = .next t ∧
      t.read .status = (if w.getLsbD 3 = true then s.read .status &&& 0xFFFFFFF7#32 else s.read .status) ∧
      t.engine = s.engine ∧ SameRegsBut [] s t ∧ SameOutside s t)

/-- R23: the three updates of STATUS, at acceptance and at the two kinds of completion. -/
def Obligations.EngineUpdatesOfStatus : Prop :=
  (∀ (s : State) (w : Word), StatusIs (s.accept w) true false false (statusSticky s.status) 0) ∧
  (∀ (i : Instr) (s : State), i.argInRange = true →
    ∃ t, exec i s = .next t ∧ StatusIs t false true false (statusSticky s.status) 0) ∧
  (∀ (i : Instr) (s : State), i.argInRange = false →
    ∃ t, exec i s = .next t ∧ StatusIs t false true true true 1) ∧
  (∀ (s : State) (r : Reject), Ready s s.cmd → decode s.cmd = .reject r →
    ∃ t, step s = .next t ∧ StatusIs t false true true true 2)

/-- The reset state is legal (R22, R39). -/
def Obligations.ResetStateIsLegal : Prop := State.reset.Legal

/-- R22's state invariants, with CMD holding the pending word and the host's variables canonical, are
kept by every step, of either agent and of reset. -/
def Obligations.EveryStepKeepsTheStateLegal : Prop :=
  ∀ s t : State, s.Legal → step s = .next t → t.Legal

/-- R22's last invariant: no step but a host write that clears STICKY_ERR leaves ERR without it. -/
def Obligations.ErrImpliesStickyUnlessCleared : Prop :=
  ∀ s t : State, step s = .next t →
    (statusErr s.status = true → statusSticky s.status = true) →
    ¬HostClearsSticky s → (statusErr t.status = true → statusSticky t.status = true)

/-- R107: the command after an erring one is accepted, clears ERR and ERRCODE and runs as always; an error
saves nothing and changes nothing but STATUS and the engine; STICKY_ERR stays until the host writes 1
to STATUS bit 3 or the block is reset. -/
def Obligations.StickyErrStaysUntilClearedOrReset : Prop :=
  (∀ (s : State) (w : Word), statusBusy s.status = false → statusErr s.status = true →
    ∃ t, hostWrite 0x00 w s = .next t ∧ statusErr t.status = false ∧ statusErrCode t.status = 0#4 ∧
      statusSticky t.status = statusSticky s.status ∧ t.read .cmd = w ∧ ∃ n, t.engine = .busy w n) ∧
  (∀ (s : State) (i : Instr), i.wellFormed = true → i.argInRange = true → Ready s (encode i) →
    ∃ t, step s = .next t ∧ StatusIs t false true false (statusSticky s.status) 0) ∧
  (∀ (s : State) (e : ErrCode), EndsError e.code.toNat s (s.raise e)) ∧
  (∀ s t : State, step s = .next t → statusSticky s.status = true → statusSticky t.status = false →
    s.resetIn = true ∨ HostClearsSticky s)

/-! ## The register window -/

/-- R24, R25: the UID's bytes in UID0 and UID1, the reserved byte of UID1, no command writing either, and
(R48) a host write of UID1 only storing its value. -/
def Obligations.UidRegistersHoldSevenBytes : Prop :=
  ∀ s : State,
    (∀ k : Fin 4, s.uid[k.val] = (s.read .uid0).extractLsb' (8 * k.val) 8) ∧
    (∀ k : Fin 3, s.uid[4 + k.val] = (s.read .uid1).extractLsb' (8 * k.val) 8) ∧
    s.read .uid0 = packLE s.uid[0] s.uid[1] s.uid[2] s.uid[3] ∧
    s.read .uid1 = packLE s.uid[4] s.uid[5] s.uid[6] 0#8 ∧
    (s.read .uid1).extractLsb' 24 8 = 0#8 ∧
    (∀ w : Word, statusBusy s.status = false →
      ∃ t, hostWrite 0x0C w s = .next t ∧ t.read .uid1 = w &&& 0x00FFFFFF#32 ∧ SameRegsBut [.uid1] s t ∧
        t.read .status = s.read .status ∧ t.engine = s.engine ∧ SameOutside s t) ∧
    (∀ i : Instr, ∃ t, exec i s = .next t ∧ t.read .uid0 = s.read .uid0 ∧ t.read .uid1 = s.read .uid1)

/-- R32 (and R83's byte order): SEEDi is the four seed bytes 4i to 4i+3, little-endian, and a host write
of it writes those four and no other. -/
def Obligations.SeedRegistersAreTheSeedBytes : Prop :=
  ∀ (s : State) (i : Fin 8),
    (∀ k : Fin 4, seedByte s.seed (4 * i.val + k.val) = (s.read (.seed i)).extractLsb' (8 * k.val) 8) ∧
    s.read (.seed i) = packLE (seedByte s.seed (4 * i.val)) (seedByte s.seed (4 * i.val + 1))
      (seedByte s.seed (4 * i.val + 2)) (seedByte s.seed (4 * i.val + 3)) ∧
    (∀ w : Word, statusBusy s.status = false → ∃ t, hostWrite (0x40 + 4 * i.val) w s = .next t ∧
      (∀ k : Fin 4, seedByte t.seed (4 * i.val + k.val) = w.extractLsb' (8 * k.val) 8) ∧
      (∀ j, ¬(4 * i.val ≤ j ∧ j < 4 * i.val + 4) → seedByte t.seed j = seedByte s.seed j) ∧
      t.read (.seed i) = w)

/-- R43: the byte at BASE + off + k is byte k of the register at off, so seed byte j is at BASE + 0x40 +
j and the UID's bytes at 0x08 and 0x0C. -/
def Obligations.WindowIsLittleEndian : Prop :=
  ∀ s : State,
    (∀ (r : Reg) (k : Fin 4),
      s.windowByte (regOffset r + k.val) = (s.read r).extractLsb' (8 * k.val) 8) ∧
    (∀ j : Fin 32, s.windowByte (0x40 + j.val) = s.seed[j]) ∧
    (∀ k : Fin 4, s.windowByte (0x08 + k.val) = s.uid[k.val]) ∧
    (∀ k : Fin 3, s.windowByte (0x0C + k.val) = s.uid[4 + k.val])

/-- R19, R48: while not busy a host write of a register that holds all 32 bits only stores its value:
it reads back, and no other register, nor the engine, changes. -/
def Obligations.HostWriteOnlyStoresItsValue : Prop :=
  ∀ (s : State) (r : Reg) (w : Word), statusBusy s.status = false →
    r ∉ [Reg.cmd, .status, .uid1, .pwd] →
    ∃ t, hostWrite (regOffset r) w s = .next t ∧ t.read r = w ∧ SameRegsBut [r] s t ∧
      t.read .status = s.read .status ∧ t.engine = s.engine ∧ SameOutside s t

/-- R33, R45: while not busy a reserved offset reads 0 and a write to it has no effect. -/
def Obligations.ReservedOffsetsReadZeroAndIgnoreWrites : Prop :=
  ∀ (s : State) (off : Nat), statusBusy s.status = false → off ∈ reservedOffsets →
    hostRead off s = (0#32, s) ∧ ∀ w : Word, hostWrite off w s = .next s

/-- R29: PWD ignores host writes, is written only by DERIVE_PWD, and holds the password's bytes
little-endian. -/
def Obligations.PasswordIsReadOnlyToTheHost : Prop :=
  (∀ (s : State) (w : Word), statusBusy s.status = false → hostWrite 0x1C w s = .next s) ∧
  (∀ (i : Instr) (s : State), ∃ t, exec i s = .next t ∧ (i ≠ .derivePwd → t.read .pwd = s.read .pwd)) ∧
  (∀ (s : State) (k : Fin 4), (unpackLE (s.read .pwd))[k] = (s.read .pwd).extractLsb' (8 * k.val) 8)

/-- R44: an access that is not a 32-bit access at a multiple of 4 inside the window is BUS_REJECT, and
every other access is performed at its offset. -/
def Obligations.OnlyAlignedWordAccessesAreAccepted : Prop :=
  ∀ (s : State) (addr bytes x : Nat) (e : Expr),
    (¬(bytes = 4 ∧ ∃ k, k < 32 ∧ addr = Config.base + 4 * k) →
      runStmt (.busRead addr bytes x) s = .fault .busReject ∧
      runStmt (.busWrite addr bytes e) s = .fault .busReject) ∧
    (∀ k, k < 32 → bytes = 4 → addr = Config.base + 4 * k →
      runStmt (.busRead addr bytes x) s = doRead (4 * k) x s ∧
      runStmt (.busWrite addr bytes e) s = doWrite (4 * k) (evalExpr s.hostVars e) s)

/-- R48: no host read has a side effect on a register or on the engine, and while not busy a read
returns the register's value and can be repeated. -/
def Obligations.ReadsHaveNoSideEffect : Prop :=
  ∀ (s : State) (off : Nat),
    (∀ r : Reg, (hostRead off s).2.read r = s.read r) ∧ (hostRead off s).2.engine = s.engine ∧
    (statusBusy s.status = false → hostRead off s = (s.readOffset off, s)) ∧
    (∀ r : Reg, statusBusy s.status = false → hostRead (regOffset r) s = (s.read r, s))

/-- R123: while busy, a read of STATUS is true and a read of CMD gives the accepted word. Any other read
completes with the open value of a draw, and the next read takes the next draw (the model's form of
'any value', log entry 5). A host statement that reads puts that value in its variable. -/
def Obligations.ReadsWhileBusy : Prop :=
  ∀ s : State, statusBusy s.status = true →
    hostRead 0x04 s = (s.read .status, s) ∧ hostRead 0x00 s = (s.cmd, s) ∧
    (∀ off, off ≠ 0x00 → off ≠ 0x04 → (hostRead off s).1 = Config.busyRead s.draws ∧
      (hostRead off s).2.draws = s.draws + 1) ∧
    (varsWf s.hostVars = true → ∀ (r : Reg) (x : Nat), ∃ t, runStmt (.rd r x) s = .next t ∧
      runStmt (.busRead (Config.base + regOffset r) 4 x) s = .next t ∧
      varGet t.hostVars x = (if r = .cmd ∨ r = .status then s.read r else Config.busyRead s.draws) ∧
      (∀ y, y ≠ x → varGet t.hostVars y = varGet s.hostVars y) ∧ (∀ q : Reg, t.read q = s.read q) ∧
      t.engine = s.engine ∧ t.hostPos = s.hostPos + 1 ∧
      t.draws = (if r = .cmd ∨ r = .status then s.draws else s.draws + 1))

/-- R124: while busy, a host write to any register but STATUS is HOST_HAZARD, and so is every host
statement that makes one; a STATUS write is permitted and acts as R21 says. -/
def Obligations.WritesWhileBusy : Prop :=
  ∀ (s : State) (w : Word), statusBusy s.status = true →
    (∀ r : Reg, r ≠ .status → hostWrite (regOffset r) w s = .fault .hostHazard) ∧
    (∀ (r : Reg) (e : Expr), r ≠ .status → runStmt (.wr r e) s = .fault .hostHazard ∧
      runStmt (.busWrite (Config.base + regOffset r) 4 e) s = .fault .hostHazard) ∧
    (∀ i : Instr, runStmt (.command i) s = .fault .hostHazard) ∧
    (∀ e : Expr, ∃ t, runStmt (.wr .status e) s = .next t ∧
      runStmt (.busWrite (Config.base + 0x04) 4 e) s = .next t ∧
      t.status = statusWrite s.status (evalExpr s.hostVars e) ∧ SameRegsBut [] s t ∧ t.engine = s.engine ∧
      t.hostPos = s.hostPos + 1 ∧ t.hostVars = s.hostVars) ∧
    (∃ t, hostWrite 0x04 w s = .next t ∧
      statusSticky t.status = (statusSticky s.status && !w.getLsbD 3) ∧
      statusBusy t.status = true ∧ statusDone t.status = statusDone s.status ∧
      statusErr t.status = statusErr s.status ∧ statusErrCode t.status = statusErrCode s.status ∧
      SameRegsBut [] s t ∧ t.engine = s.engine)

/-! ## Reset -/

/-- R39: the reset value of every register, of every seed byte and of the engine. -/
def Obligations.ResetValues : Prop :=
  (∀ r : Reg, State.reset.read r = 0#32) ∧ (∀ j : Fin 32, State.reset.seed[j] = 0#8) ∧
  StatusIs State.reset false false false false 0 ∧ State.reset.engine = .idle

/-- R116, R117: a reset, whatever the engine was doing, gives every register its reset value and
discards a pending command. -/
def Obligations.ResetDiscardsThePendingCommand : Prop :=
  ∀ s : State, s.resetIn = true →
    ∃ t, step s = .next t ∧ (∀ r : Reg, t.read r = 0#32) ∧ t.engine = .idle

/-! ## The two agents -/

/-- The step of an engine that is to complete (its latency has run out, or its host has no statement
left: log entries 1, 2) is the complete step of the decoded command: exec of it, on the same state, and
nothing around it (R37, R61). So is the step after a NOP accepted from reset, whatever its latency (log
entry 2: reset has no host statement). -/
def Obligations.StepRunsTheDecodedCommand : Prop :=
  (∀ (s : State) (w : Word) (i : Instr), decode w = .instr i →
    (Ready s w → step s = exec i s) ∧
    (∀ n, s.resetIn = false → s.cmd = w → s.engine = .busy w n → s.hostStmt? = none → step s = exec i s)) ∧
  step (State.reset.accept 0x00000000#32) = exec .nop (State.reset.accept 0x00000000#32)

/-- While the engine is idle, or busy with latency left, the step is the host's next statement, the
latency counted down by one (R17, R51; the counting is the model's, log entry 1). -/
def Obligations.StepPerformsTheHostStatement : Prop :=
  ∀ (s : State) (st : HostStmt), s.resetIn = false → s.hostStmt? = some st →
    (s.engine = .idle → step s = runStmt st s) ∧
    (∀ w n, s.engine = .busy w (n + 1) → step s = runStmt st (s.setEngine (.busy w n)))

/-- A host statement of register access does what R65 says: `rd` puts the value read in its variable,
`wr` and a mnemonic write; each goes on to the next statement. The first two clauses hold busy or not, the
next two while not busy; what the accesses do while busy is ReadsWhileBusy and WritesWhileBusy. -/
def Obligations.HostStatementsAccessTheWindow : Prop :=
  ∀ s : State, varsWf s.hostVars = true →
    (∀ (r : Reg) (x : Nat), ∃ t, runStmt (.rd r x) s = .next t ∧
      varGet t.hostVars x = (hostRead (regOffset r) s).1 ∧
      (∀ y, y ≠ x → varGet t.hostVars y = varGet s.hostVars y) ∧ (∀ q : Reg, t.read q = s.read q) ∧
      t.engine = s.engine ∧ t.hostPos = s.hostPos + 1) ∧
    (∀ (r : Reg) (e : Expr),
      (∀ u, hostWrite (regOffset r) (evalExpr s.hostVars e) s = .next u →
        runStmt (.wr r e) s = .next u.hostNext) ∧
      (∀ f, hostWrite (regOffset r) (evalExpr s.hostVars e) s = .fault f →
        runStmt (.wr r e) s = .fault f)) ∧
    (statusBusy s.status = false → ∀ (r : Reg) (x : Nat), ∃ t, runStmt (.rd r x) s = .next t ∧ varGet t.hostVars x = s.read r ∧
      (∀ y, y ≠ x → varGet t.hostVars y = varGet s.hostVars y) ∧ (∀ q : Reg, t.read q = s.read q) ∧
      t.hostPos = s.hostPos + 1) ∧
    (statusBusy s.status = false → ∀ (r : Reg) (e : Expr), ∃ t, runStmt (.wr r e) s = .next t ∧ t.hostPos = s.hostPos + 1 ∧
      ∀ q : Reg, t.read q = (s.write r (evalExpr s.hostVars e)).read q) ∧
    (∀ i : Instr, runStmt (.command i) s = runStmt (.wr .cmd (.const (encode i))) s)

/-- R65, R66: a statement performs its bus transaction, the write or the read with its outcome (busy or
not), and a statement without one is an unaccepted access or touches no register. -/
def Obligations.HostStatementsPerformTheirTransactions : Prop :=
  ∀ (st : HostStmt) (s : State),
    (∀ off v, transactionOf s.hostVars st = some (.write off v) → runStmt st s = doWrite off v s ∧
      (∀ u, hostWrite off v s = .next u → runStmt st s = .next u.hostNext) ∧
      (∀ f, hostWrite off v s = .fault f → runStmt st s = .fault f)) ∧
    (∀ off, transactionOf s.hostVars st = some (.read off) → ∃ x, runStmt st s = doRead off x s ∧
      runStmt st s = .next ((hostRead off s).2.setVar x (hostRead off s).1).hostNext) ∧
    (transactionOf s.hostVars st = none → runStmt st s = .fault .busReject ∨
      ∃ t, runStmt st s = .next t ∧ (∀ r : Reg, t.read r = s.read r) ∧ t.engine = s.engine)

/-- R66: the encoding of a host program is its transactions in program order. A `wr`, a `rd` and a mnemonic
list as `W off v`, `R off` and `W 0x00 word`. In any run a step with a host statement performs that
statement and lists its transaction before those of the steps after it; a step without one performs none
and leaves the host where it is. For a program without branches whose written values are constants, the
transactions of a run are, for every latency and with resets of the block on the way, those of the program
text from where the run starts to where it stands. (The host language is the model's, log entry 10.) -/
def Obligations.RunTransactionsFollowTheProgram : Prop :=
  (∀ (vars : List (Nat × Word)) (r : Reg) (e : Expr) (x : Nat) (i : Instr),
    programTransactions vars [.wr r e, .rd r x, .command i] =
      [.write (regOffset r) (evalExpr vars e), .read (regOffset r), .write 0x00 (encode i)]) ∧
  (∀ s : State,
    (∀ st, s.nextStmt? = some st → s.hostStmt? = some st ∧ ∃ e, step s = runStmt st (s.setEngine e)) ∧
    (s.nextStmt? = none → ∃ t, step s = .next t ∧ t.hostProg = s.hostProg ∧ t.hostPos = s.hostPos ∧
      t.hostVars = s.hostVars ∧ ∀ k, transactionsOfRun (k + 1) s = transactionsOfRun k t) ∧
    (∀ t k, step s = .next t →
      transactionsOfRun (k + 1) s = s.transaction?.toList ++ transactionsOfRun k t)) ∧
  (∀ s : State,
    (∀ st ∈ s.hostProg, (∀ c d, st ≠ .branch c d) ∧ ∀ vars, transactionOf vars st = transactionOf [] st) →
    ∀ k t, core.run k s = .next t →
      s.hostPos ≤ t.hostPos ∧
      transactionsOfRun k s =
        programTransactions [] ((s.hostProg.drop s.hostPos).take (t.hostPos - s.hostPos)))

/-- R122: from every legal state with a pending command the engine is idle again after at most one step
more than the drawn latency, unless the host program faults first. -/
def Obligations.PendingCommandAlwaysCompletes : Prop :=
  ∀ (s : State) (w : Word) (n : Nat), s.Legal → s.resetIn = false → s.engine = .busy w n →
    ∃ k, k ≤ n + 1 ∧
      ((∃ t, core.run k s = .next t ∧ t.engine = .idle ∧ statusDone t.status = true) ∨
        ∃ f, core.run k s = .fault f)

/-- R67, R121, R52: `wait` after a command ends, for every latency, with the engine idle, every register
as the command's completion leaves it, and `$s` holding its STATUS. (The latency counts host statements,
log entry 1; the loop is written in the model's host language, log entry 10; `$s` is host variable 0, log
entry 18.) -/
def Obligations.WaitEndsWithTheCommandDone : Prop :=
  ∀ (s : State) (w : Word) (n : Nat), s.Legal → s.resetIn = false → s.engine = .busy w n →
    s.hostProg[s.hostPos]? = some (.rd .status varS) →
    s.hostProg[s.hostPos + 1]? = some (.branch (.bitSet (.var varS) 0) (-1)) →
    ∃ u k t, complete s = .next u ∧ core.run k s = .next t ∧
      t.hostPos = s.hostPos + 2 ∧ t.engine = .idle ∧ (∀ r : Reg, t.read r = u.read r) ∧
      varGet t.hostVars varS = t.read .status ∧ statusDone t.status = true ∧ statusBusy t.status = false

/-- R127, R118: with its host's program ended and the engine idle, the machine stays as it is. -/
def Obligations.EndedRunStaysAsItIs : Prop :=
  ∀ s : State, s.resetIn = false → s.engine = .idle → s.hostProg.length ≤ s.hostPos → step s = .next s

/-- R69: `setuid` places the seven bytes as R24 says. -/
def Obligations.SetuidPlacesTheUid : Prop :=
  ∀ (s : State) (b : Vector Byte 7), s.resetIn = false → s.engine = .idle → statusBusy s.status = false →
    s.hostProg[s.hostPos]? = (setuidStmts b)[0]? → s.hostProg[s.hostPos + 1]? = (setuidStmts b)[1]? →
    ∃ t, core.run 2 s = .next t ∧ t.uid = b ∧ t.hostPos = s.hostPos + 2 ∧ t.engine = .idle ∧
      t.read .status = s.read .status ∧ SameRegsBut [.uid0, .uid1] s t

/-- W4 of 95_test_vectors.md, at the level of the values ENCREC and DECREC compute (R70, R71): a record
made from an identifier under any derived key words gives the identifier back, and the two reversals
of a key word cancel. -/
def Obligations.PageCodecRoundTrip : Prop :=
  ∀ (raw : Vector Word 4) (id : Word),
    let key := raw.map fun w => revb (revb w)
    let c := teaEncrypt key id id
    let r0 := revb c.1
    let r1 := revb c.2
    key = raw ∧ teaDecrypt key (revb r0) (revb r1) = (id, id)
end

