-- ==== Sys2Proof/Laws/Decode.lean ====
section
/-! SUPPORT. The fields of an assembled command word (R57). -/

namespace Sys2Proof

@[simp] theorem opField_assemble (op : Byte) (imm : Nat) : opField (assemble op imm) = op := by
  unfold opField assemble
  apply BitVec.eq_of_getLsbD_eq
  intro i hi
  rw [BitVec.getLsbD_extractLsb', BitVec.getLsbD_append]
  simp [hi]

@[simp] theorem immField_assemble (op : Byte) (imm : Nat) :
    immField (assemble op imm) = BitVec.ofNat 5 imm := by
  unfold immField assemble
  apply BitVec.eq_of_getLsbD_eq
  intro i hi
  rw [BitVec.getLsbD_extractLsb', BitVec.getLsbD_append, BitVec.getLsbD_append]
  have h1 : ¬8 + i < 8 := by omega
  have h2 : 8 + i - 8 = i := by omega
  simp [h1, h2, hi]

@[simp] theorem rsvField_assemble (op : Byte) (imm : Nat) : rsvField (assemble op imm) = 0#19 := by
  unfold rsvField assemble
  apply BitVec.eq_of_getLsbD_eq
  intro i hi
  rw [BitVec.getLsbD_extractLsb', BitVec.getLsbD_append, BitVec.getLsbD_append]
  have h1 : ¬13 + i < 8 := by omega
  have h2 : ¬13 + i - 8 < 5 := by omega
  simp [h1, h2]

/-- A command word is its three fields (R57). -/
theorem word_of_fields (w : Word) : w = rsvField w ++ immField w ++ opField w := by
  apply BitVec.eq_of_getLsbD_eq
  intro i hi
  unfold rsvField immField opField
  rw [BitVec.getLsbD_append, BitVec.getLsbD_append]
  by_cases h1 : i < 8
  · simp [h1]
  · by_cases h2 : i - 8 < 5
    · have h3 : 8 + (i - 8) = i := by omega
      simp [h1, h2, h3]
    · have h3 : 13 + (i - 8 - 5) = i := by omega
      have h4 : i - 8 - 5 < 19 := by omega
      simp [h1, h2, h3, h4]

end Sys2Proof
end

