-- ==== Sys2Proof/Laws/Flags.lean ====
section
/-! SUPPORT. The fields of STATUS after each of its updates (R21, R23). -/

namespace Sys2Proof.Machine

@[simp] theorem statusBusy_pack (b d e s : Bool) (c : BitVec 4) : statusBusy (statusPack b d e s c) = b := by
  revert b d e s c; decide

@[simp] theorem statusDone_pack (b d e s : Bool) (c : BitVec 4) : statusDone (statusPack b d e s c) = d := by
  revert b d e s c; decide

@[simp] theorem statusErr_pack (b d e s : Bool) (c : BitVec 4) : statusErr (statusPack b d e s c) = e := by
  revert b d e s c; decide

@[simp] theorem statusSticky_pack (b d e s : Bool) (c : BitVec 4) : statusSticky (statusPack b d e s c) = s := by
  revert b d e s c; decide

@[simp] theorem statusErrCode_pack (b d e s : Bool) (c : BitVec 4) :
    statusErrCode (statusPack b d e s c) = c := by
  revert b d e s c; decide

/-- A STATUS value is determined by its five fields. -/
theorem statusPack_fields (st : BitVec 8) :
    statusPack (statusBusy st) (statusDone st) (statusErr st) (statusSticky st) (statusErrCode st) = st := by
  revert st; decide

@[simp] theorem statusBusy_accept (st : BitVec 8) : statusBusy (statusAccept st) = true := statusBusy_pack ..
@[simp] theorem statusDone_accept (st : BitVec 8) : statusDone (statusAccept st) = false := statusDone_pack ..
@[simp] theorem statusErr_accept (st : BitVec 8) : statusErr (statusAccept st) = false := statusErr_pack ..
@[simp] theorem statusSticky_accept (st : BitVec 8) : statusSticky (statusAccept st) = statusSticky st :=
  statusSticky_pack ..
@[simp] theorem statusErrCode_accept (st : BitVec 8) : statusErrCode (statusAccept st) = 0#4 :=
  statusErrCode_pack ..

@[simp] theorem statusBusy_ok (st : BitVec 8) : statusBusy (statusOk st) = false := statusBusy_pack ..
@[simp] theorem statusDone_ok (st : BitVec 8) : statusDone (statusOk st) = true := statusDone_pack ..
@[simp] theorem statusErr_ok (st : BitVec 8) : statusErr (statusOk st) = false := statusErr_pack ..
@[simp] theorem statusSticky_ok (st : BitVec 8) : statusSticky (statusOk st) = statusSticky st :=
  statusSticky_pack ..
@[simp] theorem statusErrCode_ok (st : BitVec 8) : statusErrCode (statusOk st) = 0#4 := statusErrCode_pack ..

@[simp] theorem statusBusy_error (e : ErrCode) : statusBusy (statusError e) = false := statusBusy_pack ..
@[simp] theorem statusDone_error (e : ErrCode) : statusDone (statusError e) = true := statusDone_pack ..
@[simp] theorem statusErr_error (e : ErrCode) : statusErr (statusError e) = true := statusErr_pack ..
@[simp] theorem statusSticky_error (e : ErrCode) : statusSticky (statusError e) = true := statusSticky_pack ..
@[simp] theorem statusErrCode_error (e : ErrCode) : statusErrCode (statusError e) = e.code :=
  statusErrCode_pack ..

@[simp] theorem statusBusy_write (st : BitVec 8) (w : Word) : statusBusy (statusWrite st w) = statusBusy st :=
  statusBusy_pack ..
@[simp] theorem statusDone_write (st : BitVec 8) (w : Word) : statusDone (statusWrite st w) = statusDone st :=
  statusDone_pack ..
@[simp] theorem statusErr_write (st : BitVec 8) (w : Word) : statusErr (statusWrite st w) = statusErr st :=
  statusErr_pack ..
@[simp] theorem statusSticky_write (st : BitVec 8) (w : Word) :
    statusSticky (statusWrite st w) = (statusSticky st && !w.getLsbD 3) := statusSticky_pack ..
@[simp] theorem statusErrCode_write (st : BitVec 8) (w : Word) :
    statusErrCode (statusWrite st w) = statusErrCode st := statusErrCode_pack ..

end Sys2Proof.Machine
end

