-- ==== Sys2Proof/Laws/Operands.lean ====
section
/-! SUPPORT. Reading the seed buffer after a write of it (R14, R32). -/

namespace Sys2Proof.Machine

/-- Inside the buffer, `seedByte` is the buffer's byte. -/
theorem seedByte_of_lt (buf : SeedBuffer) (i : Nat) (h : i < 32) : seedByte buf i = buf[i] := by
  simp [seedByte, h]

/-- A byte of the buffer after a write of the bytes `lo` to `lo + len - 1`. -/
theorem getElem_overwrite (buf : SeedBuffer) (lo : Nat) {len : Nat} (bs : Vector Byte len) (i : Nat)
    (hi : i < 32) :
    (overwrite buf lo bs)[i] = if h : lo ≤ i ∧ i < lo + len then bs[i - lo] else buf[i] := by
  simp [overwrite]

theorem seedByte_overwrite_in (buf : SeedBuffer) (lo : Nat) {len : Nat} (bs : Vector Byte len) (i : Nat)
    (hi : i < 32) (h : lo ≤ i ∧ i < lo + len) : seedByte (overwrite buf lo bs) i = bs[i - lo] := by
  rw [seedByte_of_lt _ _ hi, getElem_overwrite, dif_pos h]

theorem seedByte_overwrite_out (buf : SeedBuffer) (lo : Nat) {len : Nat} (bs : Vector Byte len) (i : Nat)
    (h : ¬(lo ≤ i ∧ i < lo + len)) : seedByte (overwrite buf lo bs) i = seedByte buf i := by
  by_cases hi : i < 32
  · rw [seedByte_of_lt _ _ hi, getElem_overwrite, dif_neg h, seedByte_of_lt _ _ hi]
  · simp [seedByte, hi]

/-- Two buffers with the same 32 bytes are the same buffer. -/
theorem seedBuffer_ext (a b : SeedBuffer) (h : ∀ i, i < 32 → seedByte a i = seedByte b i) : a = b := by
  ext i hi
  rw [← seedByte_of_lt a i hi, ← seedByte_of_lt b i hi, h i hi]

/-- The mixer's accumulator before any word. -/
theorem mix_zero (buf : SeedBuffer) : mix buf 0 = 0#32 := rfl

/-- Two buffers with the same words mix to the same value. -/
theorem mix_congr (a b : SeedBuffer) (n : Nat) (h : ∀ i, i < n → seedWord a (4 * i) = seedWord b (4 * i)) :
    mix a n = mix b n := by
  unfold mix
  apply List.foldl_ext
  intro acc i hi
  rw [h i (List.mem_range.mp hi)]

/-- The mixer's accumulator after one word more. -/
theorem mix_succ (buf : SeedBuffer) (n : Nat) :
    mix buf (n + 1) = mixStep (seedWord buf (4 * n)) (mix buf n) := by
  simp [mix, List.range_succ]

/-- `rotr` is the rotation of a word by the amount (R72). -/
theorem rotr_eq_rotateRight (v : Word) (amount : Byte) : rotr v amount = v.rotateRight amount.toNat := by
  simp only [rotr]
  split
  next h =>
    apply BitVec.eq_of_getLsbD_eq
    intro i hi
    rw [BitVec.getLsbD_rotateRight]
    simp [h, hi]
  next =>
    rw [← BitVec.rotateRight_mod_eq_rotateRight, BitVec.rotateRight_def]
    simp

/-- `packLE` puts the bytes side by side, byte 0 lowest (R73). -/
theorem packLE_eq_append (b0 b1 b2 b3 : Byte) : packLE b0 b1 b2 b3 = b3 ++ b2 ++ b1 ++ b0 := by
  unfold packLE
  apply BitVec.eq_of_getLsbD_eq
  intro i hi
  simp only [BitVec.getLsbD_or, BitVec.getLsbD_append, BitVec.getLsbD_shiftLeft, BitVec.getLsbD_setWidth, hi,
    decide_true, Bool.true_and]
  interval_cases i <;> simp

/-- The seed words decide the mix; bytes at `4 * n` and above do not matter (R81). -/
theorem mix_eq_of_bytes (a b : SeedBuffer) (n : Nat) (h : ∀ j, j < 4 * n → seedByte a j = seedByte b j) :
    mix a n = mix b n := by
  apply mix_congr
  intro i hi
  simp only [seedWord]
  rw [h _ (by omega), h _ (by omega), h _ (by omega), h _ (by omega)]

end Sys2Proof.Machine
end

