-- ==== Sys2Proof/Laws/State.lean ====
section
/-! SUPPORT. What each one-field update leaves in each field, true by unfolding. -/

namespace Sys2Proof.Machine

/-! setCmd -/

@[simp] theorem State.setCmd_cmd (s : State) (v : Word) : (s.setCmd v).cmd = v := rfl
@[simp] theorem State.setCmd_status (s : State) (v : Word) : (s.setCmd v).status = s.status := rfl
@[simp] theorem State.setCmd_uid0 (s : State) (v : Word) : (s.setCmd v).uid0 = s.uid0 := rfl
@[simp] theorem State.setCmd_uid1 (s : State) (v : Word) : (s.setCmd v).uid1 = s.uid1 := rfl
@[simp] theorem State.setCmd_result (s : State) (v : Word) : (s.setCmd v).result = s.result := rfl
@[simp] theorem State.setCmd_opa (s : State) (v : Word) : (s.setCmd v).opa = s.opa := rfl
@[simp] theorem State.setCmd_opb (s : State) (v : Word) : (s.setCmd v).opb = s.opb := rfl
@[simp] theorem State.setCmd_pwd (s : State) (v : Word) : (s.setCmd v).pwd = s.pwd := rfl
@[simp] theorem State.setCmd_key (s : State) (v : Word) : (s.setCmd v).key = s.key := rfl
@[simp] theorem State.setCmd_v0 (s : State) (v : Word) : (s.setCmd v).v0 = s.v0 := rfl
@[simp] theorem State.setCmd_v1 (s : State) (v : Word) : (s.setCmd v).v1 = s.v1 := rfl
@[simp] theorem State.setCmd_seed (s : State) (v : Word) : (s.setCmd v).seed = s.seed := rfl
@[simp] theorem State.setCmd_engine (s : State) (v : Word) : (s.setCmd v).engine = s.engine := rfl
@[simp] theorem State.setCmd_resetIn (s : State) (v : Word) : (s.setCmd v).resetIn = s.resetIn := rfl
@[simp] theorem State.setCmd_draws (s : State) (v : Word) : (s.setCmd v).draws = s.draws := rfl
@[simp] theorem State.setCmd_hostProg (s : State) (v : Word) : (s.setCmd v).hostProg = s.hostProg := rfl
@[simp] theorem State.setCmd_hostPos (s : State) (v : Word) : (s.setCmd v).hostPos = s.hostPos := rfl
@[simp] theorem State.setCmd_hostVars (s : State) (v : Word) : (s.setCmd v).hostVars = s.hostVars := rfl

/-! setStatus -/

@[simp] theorem State.setStatus_cmd (s : State) (v : BitVec 8) : (s.setStatus v).cmd = s.cmd := rfl
@[simp] theorem State.setStatus_status (s : State) (v : BitVec 8) : (s.setStatus v).status = v := rfl
@[simp] theorem State.setStatus_uid0 (s : State) (v : BitVec 8) : (s.setStatus v).uid0 = s.uid0 := rfl
@[simp] theorem State.setStatus_uid1 (s : State) (v : BitVec 8) : (s.setStatus v).uid1 = s.uid1 := rfl
@[simp] theorem State.setStatus_result (s : State) (v : BitVec 8) : (s.setStatus v).result = s.result := rfl
@[simp] theorem State.setStatus_opa (s : State) (v : BitVec 8) : (s.setStatus v).opa = s.opa := rfl
@[simp] theorem State.setStatus_opb (s : State) (v : BitVec 8) : (s.setStatus v).opb = s.opb := rfl
@[simp] theorem State.setStatus_pwd (s : State) (v : BitVec 8) : (s.setStatus v).pwd = s.pwd := rfl
@[simp] theorem State.setStatus_key (s : State) (v : BitVec 8) : (s.setStatus v).key = s.key := rfl
@[simp] theorem State.setStatus_v0 (s : State) (v : BitVec 8) : (s.setStatus v).v0 = s.v0 := rfl
@[simp] theorem State.setStatus_v1 (s : State) (v : BitVec 8) : (s.setStatus v).v1 = s.v1 := rfl
@[simp] theorem State.setStatus_seed (s : State) (v : BitVec 8) : (s.setStatus v).seed = s.seed := rfl
@[simp] theorem State.setStatus_engine (s : State) (v : BitVec 8) : (s.setStatus v).engine = s.engine := rfl
@[simp] theorem State.setStatus_resetIn (s : State) (v : BitVec 8) : (s.setStatus v).resetIn = s.resetIn := rfl
@[simp] theorem State.setStatus_draws (s : State) (v : BitVec 8) : (s.setStatus v).draws = s.draws := rfl
@[simp] theorem State.setStatus_hostProg (s : State) (v : BitVec 8) : (s.setStatus v).hostProg = s.hostProg := rfl
@[simp] theorem State.setStatus_hostPos (s : State) (v : BitVec 8) : (s.setStatus v).hostPos = s.hostPos := rfl
@[simp] theorem State.setStatus_hostVars (s : State) (v : BitVec 8) : (s.setStatus v).hostVars = s.hostVars := rfl

/-! setUid0 -/

@[simp] theorem State.setUid0_cmd (s : State) (v : Word) : (s.setUid0 v).cmd = s.cmd := rfl
@[simp] theorem State.setUid0_status (s : State) (v : Word) : (s.setUid0 v).status = s.status := rfl
@[simp] theorem State.setUid0_uid0 (s : State) (v : Word) : (s.setUid0 v).uid0 = v := rfl
@[simp] theorem State.setUid0_uid1 (s : State) (v : Word) : (s.setUid0 v).uid1 = s.uid1 := rfl
@[simp] theorem State.setUid0_result (s : State) (v : Word) : (s.setUid0 v).result = s.result := rfl
@[simp] theorem State.setUid0_opa (s : State) (v : Word) : (s.setUid0 v).opa = s.opa := rfl
@[simp] theorem State.setUid0_opb (s : State) (v : Word) : (s.setUid0 v).opb = s.opb := rfl
@[simp] theorem State.setUid0_pwd (s : State) (v : Word) : (s.setUid0 v).pwd = s.pwd := rfl
@[simp] theorem State.setUid0_key (s : State) (v : Word) : (s.setUid0 v).key = s.key := rfl
@[simp] theorem State.setUid0_v0 (s : State) (v : Word) : (s.setUid0 v).v0 = s.v0 := rfl
@[simp] theorem State.setUid0_v1 (s : State) (v : Word) : (s.setUid0 v).v1 = s.v1 := rfl
@[simp] theorem State.setUid0_seed (s : State) (v : Word) : (s.setUid0 v).seed = s.seed := rfl
@[simp] theorem State.setUid0_engine (s : State) (v : Word) : (s.setUid0 v).engine = s.engine := rfl
@[simp] theorem State.setUid0_resetIn (s : State) (v : Word) : (s.setUid0 v).resetIn = s.resetIn := rfl
@[simp] theorem State.setUid0_draws (s : State) (v : Word) : (s.setUid0 v).draws = s.draws := rfl
@[simp] theorem State.setUid0_hostProg (s : State) (v : Word) : (s.setUid0 v).hostProg = s.hostProg := rfl
@[simp] theorem State.setUid0_hostPos (s : State) (v : Word) : (s.setUid0 v).hostPos = s.hostPos := rfl
@[simp] theorem State.setUid0_hostVars (s : State) (v : Word) : (s.setUid0 v).hostVars = s.hostVars := rfl

/-! setUid1 -/

@[simp] theorem State.setUid1_cmd (s : State) (v : BitVec 24) : (s.setUid1 v).cmd = s.cmd := rfl
@[simp] theorem State.setUid1_status (s : State) (v : BitVec 24) : (s.setUid1 v).status = s.status := rfl
@[simp] theorem State.setUid1_uid0 (s : State) (v : BitVec 24) : (s.setUid1 v).uid0 = s.uid0 := rfl
@[simp] theorem State.setUid1_uid1 (s : State) (v : BitVec 24) : (s.setUid1 v).uid1 = v := rfl
@[simp] theorem State.setUid1_result (s : State) (v : BitVec 24) : (s.setUid1 v).result = s.result := rfl
@[simp] theorem State.setUid1_opa (s : State) (v : BitVec 24) : (s.setUid1 v).opa = s.opa := rfl
@[simp] theorem State.setUid1_opb (s : State) (v : BitVec 24) : (s.setUid1 v).opb = s.opb := rfl
@[simp] theorem State.setUid1_pwd (s : State) (v : BitVec 24) : (s.setUid1 v).pwd = s.pwd := rfl
@[simp] theorem State.setUid1_key (s : State) (v : BitVec 24) : (s.setUid1 v).key = s.key := rfl
@[simp] theorem State.setUid1_v0 (s : State) (v : BitVec 24) : (s.setUid1 v).v0 = s.v0 := rfl
@[simp] theorem State.setUid1_v1 (s : State) (v : BitVec 24) : (s.setUid1 v).v1 = s.v1 := rfl
@[simp] theorem State.setUid1_seed (s : State) (v : BitVec 24) : (s.setUid1 v).seed = s.seed := rfl
@[simp] theorem State.setUid1_engine (s : State) (v : BitVec 24) : (s.setUid1 v).engine = s.engine := rfl
@[simp] theorem State.setUid1_resetIn (s : State) (v : BitVec 24) : (s.setUid1 v).resetIn = s.resetIn := rfl
@[simp] theorem State.setUid1_draws (s : State) (v : BitVec 24) : (s.setUid1 v).draws = s.draws := rfl
@[simp] theorem State.setUid1_hostProg (s : State) (v : BitVec 24) : (s.setUid1 v).hostProg = s.hostProg := rfl
@[simp] theorem State.setUid1_hostPos (s : State) (v : BitVec 24) : (s.setUid1 v).hostPos = s.hostPos := rfl
@[simp] theorem State.setUid1_hostVars (s : State) (v : BitVec 24) : (s.setUid1 v).hostVars = s.hostVars := rfl

/-! setResult -/

@[simp] theorem State.setResult_cmd (s : State) (v : Word) : (s.setResult v).cmd = s.cmd := rfl
@[simp] theorem State.setResult_status (s : State) (v : Word) : (s.setResult v).status = s.status := rfl
@[simp] theorem State.setResult_uid0 (s : State) (v : Word) : (s.setResult v).uid0 = s.uid0 := rfl
@[simp] theorem State.setResult_uid1 (s : State) (v : Word) : (s.setResult v).uid1 = s.uid1 := rfl
@[simp] theorem State.setResult_result (s : State) (v : Word) : (s.setResult v).result = v := rfl
@[simp] theorem State.setResult_opa (s : State) (v : Word) : (s.setResult v).opa = s.opa := rfl
@[simp] theorem State.setResult_opb (s : State) (v : Word) : (s.setResult v).opb = s.opb := rfl
@[simp] theorem State.setResult_pwd (s : State) (v : Word) : (s.setResult v).pwd = s.pwd := rfl
@[simp] theorem State.setResult_key (s : State) (v : Word) : (s.setResult v).key = s.key := rfl
@[simp] theorem State.setResult_v0 (s : State) (v : Word) : (s.setResult v).v0 = s.v0 := rfl
@[simp] theorem State.setResult_v1 (s : State) (v : Word) : (s.setResult v).v1 = s.v1 := rfl
@[simp] theorem State.setResult_seed (s : State) (v : Word) : (s.setResult v).seed = s.seed := rfl
@[simp] theorem State.setResult_engine (s : State) (v : Word) : (s.setResult v).engine = s.engine := rfl
@[simp] theorem State.setResult_resetIn (s : State) (v : Word) : (s.setResult v).resetIn = s.resetIn := rfl
@[simp] theorem State.setResult_draws (s : State) (v : Word) : (s.setResult v).draws = s.draws := rfl
@[simp] theorem State.setResult_hostProg (s : State) (v : Word) : (s.setResult v).hostProg = s.hostProg := rfl
@[simp] theorem State.setResult_hostPos (s : State) (v : Word) : (s.setResult v).hostPos = s.hostPos := rfl
@[simp] theorem State.setResult_hostVars (s : State) (v : Word) : (s.setResult v).hostVars = s.hostVars := rfl

/-! setOpa -/

@[simp] theorem State.setOpa_cmd (s : State) (v : Word) : (s.setOpa v).cmd = s.cmd := rfl
@[simp] theorem State.setOpa_status (s : State) (v : Word) : (s.setOpa v).status = s.status := rfl
@[simp] theorem State.setOpa_uid0 (s : State) (v : Word) : (s.setOpa v).uid0 = s.uid0 := rfl
@[simp] theorem State.setOpa_uid1 (s : State) (v : Word) : (s.setOpa v).uid1 = s.uid1 := rfl
@[simp] theorem State.setOpa_result (s : State) (v : Word) : (s.setOpa v).result = s.result := rfl
@[simp] theorem State.setOpa_opa (s : State) (v : Word) : (s.setOpa v).opa = v := rfl
@[simp] theorem State.setOpa_opb (s : State) (v : Word) : (s.setOpa v).opb = s.opb := rfl
@[simp] theorem State.setOpa_pwd (s : State) (v : Word) : (s.setOpa v).pwd = s.pwd := rfl
@[simp] theorem State.setOpa_key (s : State) (v : Word) : (s.setOpa v).key = s.key := rfl
@[simp] theorem State.setOpa_v0 (s : State) (v : Word) : (s.setOpa v).v0 = s.v0 := rfl
@[simp] theorem State.setOpa_v1 (s : State) (v : Word) : (s.setOpa v).v1 = s.v1 := rfl
@[simp] theorem State.setOpa_seed (s : State) (v : Word) : (s.setOpa v).seed = s.seed := rfl
@[simp] theorem State.setOpa_engine (s : State) (v : Word) : (s.setOpa v).engine = s.engine := rfl
@[simp] theorem State.setOpa_resetIn (s : State) (v : Word) : (s.setOpa v).resetIn = s.resetIn := rfl
@[simp] theorem State.setOpa_draws (s : State) (v : Word) : (s.setOpa v).draws = s.draws := rfl
@[simp] theorem State.setOpa_hostProg (s : State) (v : Word) : (s.setOpa v).hostProg = s.hostProg := rfl
@[simp] theorem State.setOpa_hostPos (s : State) (v : Word) : (s.setOpa v).hostPos = s.hostPos := rfl
@[simp] theorem State.setOpa_hostVars (s : State) (v : Word) : (s.setOpa v).hostVars = s.hostVars := rfl

/-! setOpb -/

@[simp] theorem State.setOpb_cmd (s : State) (v : Word) : (s.setOpb v).cmd = s.cmd := rfl
@[simp] theorem State.setOpb_status (s : State) (v : Word) : (s.setOpb v).status = s.status := rfl
@[simp] theorem State.setOpb_uid0 (s : State) (v : Word) : (s.setOpb v).uid0 = s.uid0 := rfl
@[simp] theorem State.setOpb_uid1 (s : State) (v : Word) : (s.setOpb v).uid1 = s.uid1 := rfl
@[simp] theorem State.setOpb_result (s : State) (v : Word) : (s.setOpb v).result = s.result := rfl
@[simp] theorem State.setOpb_opa (s : State) (v : Word) : (s.setOpb v).opa = s.opa := rfl
@[simp] theorem State.setOpb_opb (s : State) (v : Word) : (s.setOpb v).opb = v := rfl
@[simp] theorem State.setOpb_pwd (s : State) (v : Word) : (s.setOpb v).pwd = s.pwd := rfl
@[simp] theorem State.setOpb_key (s : State) (v : Word) : (s.setOpb v).key = s.key := rfl
@[simp] theorem State.setOpb_v0 (s : State) (v : Word) : (s.setOpb v).v0 = s.v0 := rfl
@[simp] theorem State.setOpb_v1 (s : State) (v : Word) : (s.setOpb v).v1 = s.v1 := rfl
@[simp] theorem State.setOpb_seed (s : State) (v : Word) : (s.setOpb v).seed = s.seed := rfl
@[simp] theorem State.setOpb_engine (s : State) (v : Word) : (s.setOpb v).engine = s.engine := rfl
@[simp] theorem State.setOpb_resetIn (s : State) (v : Word) : (s.setOpb v).resetIn = s.resetIn := rfl
@[simp] theorem State.setOpb_draws (s : State) (v : Word) : (s.setOpb v).draws = s.draws := rfl
@[simp] theorem State.setOpb_hostProg (s : State) (v : Word) : (s.setOpb v).hostProg = s.hostProg := rfl
@[simp] theorem State.setOpb_hostPos (s : State) (v : Word) : (s.setOpb v).hostPos = s.hostPos := rfl
@[simp] theorem State.setOpb_hostVars (s : State) (v : Word) : (s.setOpb v).hostVars = s.hostVars := rfl

/-! setPwd -/

@[simp] theorem State.setPwd_cmd (s : State) (v : Word) : (s.setPwd v).cmd = s.cmd := rfl
@[simp] theorem State.setPwd_status (s : State) (v : Word) : (s.setPwd v).status = s.status := rfl
@[simp] theorem State.setPwd_uid0 (s : State) (v : Word) : (s.setPwd v).uid0 = s.uid0 := rfl
@[simp] theorem State.setPwd_uid1 (s : State) (v : Word) : (s.setPwd v).uid1 = s.uid1 := rfl
@[simp] theorem State.setPwd_result (s : State) (v : Word) : (s.setPwd v).result = s.result := rfl
@[simp] theorem State.setPwd_opa (s : State) (v : Word) : (s.setPwd v).opa = s.opa := rfl
@[simp] theorem State.setPwd_opb (s : State) (v : Word) : (s.setPwd v).opb = s.opb := rfl
@[simp] theorem State.setPwd_pwd (s : State) (v : Word) : (s.setPwd v).pwd = v := rfl
@[simp] theorem State.setPwd_key (s : State) (v : Word) : (s.setPwd v).key = s.key := rfl
@[simp] theorem State.setPwd_v0 (s : State) (v : Word) : (s.setPwd v).v0 = s.v0 := rfl
@[simp] theorem State.setPwd_v1 (s : State) (v : Word) : (s.setPwd v).v1 = s.v1 := rfl
@[simp] theorem State.setPwd_seed (s : State) (v : Word) : (s.setPwd v).seed = s.seed := rfl
@[simp] theorem State.setPwd_engine (s : State) (v : Word) : (s.setPwd v).engine = s.engine := rfl
@[simp] theorem State.setPwd_resetIn (s : State) (v : Word) : (s.setPwd v).resetIn = s.resetIn := rfl
@[simp] theorem State.setPwd_draws (s : State) (v : Word) : (s.setPwd v).draws = s.draws := rfl
@[simp] theorem State.setPwd_hostProg (s : State) (v : Word) : (s.setPwd v).hostProg = s.hostProg := rfl
@[simp] theorem State.setPwd_hostPos (s : State) (v : Word) : (s.setPwd v).hostPos = s.hostPos := rfl
@[simp] theorem State.setPwd_hostVars (s : State) (v : Word) : (s.setPwd v).hostVars = s.hostVars := rfl

/-! setKey -/

@[simp] theorem State.setKey_cmd (s : State) (j : Fin 4) (v : Word) : (s.setKey j v).cmd = s.cmd := rfl
@[simp] theorem State.setKey_status (s : State) (j : Fin 4) (v : Word) : (s.setKey j v).status = s.status := rfl
@[simp] theorem State.setKey_uid0 (s : State) (j : Fin 4) (v : Word) : (s.setKey j v).uid0 = s.uid0 := rfl
@[simp] theorem State.setKey_uid1 (s : State) (j : Fin 4) (v : Word) : (s.setKey j v).uid1 = s.uid1 := rfl
@[simp] theorem State.setKey_result (s : State) (j : Fin 4) (v : Word) : (s.setKey j v).result = s.result := rfl
@[simp] theorem State.setKey_opa (s : State) (j : Fin 4) (v : Word) : (s.setKey j v).opa = s.opa := rfl
@[simp] theorem State.setKey_opb (s : State) (j : Fin 4) (v : Word) : (s.setKey j v).opb = s.opb := rfl
@[simp] theorem State.setKey_pwd (s : State) (j : Fin 4) (v : Word) : (s.setKey j v).pwd = s.pwd := rfl
@[simp] theorem State.setKey_key (s : State) (j : Fin 4) (v : Word) : (s.setKey j v).key = s.key.set j v := rfl
@[simp] theorem State.setKey_v0 (s : State) (j : Fin 4) (v : Word) : (s.setKey j v).v0 = s.v0 := rfl
@[simp] theorem State.setKey_v1 (s : State) (j : Fin 4) (v : Word) : (s.setKey j v).v1 = s.v1 := rfl
@[simp] theorem State.setKey_seed (s : State) (j : Fin 4) (v : Word) : (s.setKey j v).seed = s.seed := rfl
@[simp] theorem State.setKey_engine (s : State) (j : Fin 4) (v : Word) : (s.setKey j v).engine = s.engine := rfl
@[simp] theorem State.setKey_resetIn (s : State) (j : Fin 4) (v : Word) : (s.setKey j v).resetIn = s.resetIn := rfl
@[simp] theorem State.setKey_draws (s : State) (j : Fin 4) (v : Word) : (s.setKey j v).draws = s.draws := rfl
@[simp] theorem State.setKey_hostProg (s : State) (j : Fin 4) (v : Word) : (s.setKey j v).hostProg = s.hostProg := rfl
@[simp] theorem State.setKey_hostPos (s : State) (j : Fin 4) (v : Word) : (s.setKey j v).hostPos = s.hostPos := rfl
@[simp] theorem State.setKey_hostVars (s : State) (j : Fin 4) (v : Word) : (s.setKey j v).hostVars = s.hostVars := rfl

/-! setV0 -/

@[simp] theorem State.setV0_cmd (s : State) (v : Word) : (s.setV0 v).cmd = s.cmd := rfl
@[simp] theorem State.setV0_status (s : State) (v : Word) : (s.setV0 v).status = s.status := rfl
@[simp] theorem State.setV0_uid0 (s : State) (v : Word) : (s.setV0 v).uid0 = s.uid0 := rfl
@[simp] theorem State.setV0_uid1 (s : State) (v : Word) : (s.setV0 v).uid1 = s.uid1 := rfl
@[simp] theorem State.setV0_result (s : State) (v : Word) : (s.setV0 v).result = s.result := rfl
@[simp] theorem State.setV0_opa (s : State) (v : Word) : (s.setV0 v).opa = s.opa := rfl
@[simp] theorem State.setV0_opb (s : State) (v : Word) : (s.setV0 v).opb = s.opb := rfl
@[simp] theorem State.setV0_pwd (s : State) (v : Word) : (s.setV0 v).pwd = s.pwd := rfl
@[simp] theorem State.setV0_key (s : State) (v : Word) : (s.setV0 v).key = s.key := rfl
@[simp] theorem State.setV0_v0 (s : State) (v : Word) : (s.setV0 v).v0 = v := rfl
@[simp] theorem State.setV0_v1 (s : State) (v : Word) : (s.setV0 v).v1 = s.v1 := rfl
@[simp] theorem State.setV0_seed (s : State) (v : Word) : (s.setV0 v).seed = s.seed := rfl
@[simp] theorem State.setV0_engine (s : State) (v : Word) : (s.setV0 v).engine = s.engine := rfl
@[simp] theorem State.setV0_resetIn (s : State) (v : Word) : (s.setV0 v).resetIn = s.resetIn := rfl
@[simp] theorem State.setV0_draws (s : State) (v : Word) : (s.setV0 v).draws = s.draws := rfl
@[simp] theorem State.setV0_hostProg (s : State) (v : Word) : (s.setV0 v).hostProg = s.hostProg := rfl
@[simp] theorem State.setV0_hostPos (s : State) (v : Word) : (s.setV0 v).hostPos = s.hostPos := rfl
@[simp] theorem State.setV0_hostVars (s : State) (v : Word) : (s.setV0 v).hostVars = s.hostVars := rfl

/-! setV1 -/

@[simp] theorem State.setV1_cmd (s : State) (v : Word) : (s.setV1 v).cmd = s.cmd := rfl
@[simp] theorem State.setV1_status (s : State) (v : Word) : (s.setV1 v).status = s.status := rfl
@[simp] theorem State.setV1_uid0 (s : State) (v : Word) : (s.setV1 v).uid0 = s.uid0 := rfl
@[simp] theorem State.setV1_uid1 (s : State) (v : Word) : (s.setV1 v).uid1 = s.uid1 := rfl
@[simp] theorem State.setV1_result (s : State) (v : Word) : (s.setV1 v).result = s.result := rfl
@[simp] theorem State.setV1_opa (s : State) (v : Word) : (s.setV1 v).opa = s.opa := rfl
@[simp] theorem State.setV1_opb (s : State) (v : Word) : (s.setV1 v).opb = s.opb := rfl
@[simp] theorem State.setV1_pwd (s : State) (v : Word) : (s.setV1 v).pwd = s.pwd := rfl
@[simp] theorem State.setV1_key (s : State) (v : Word) : (s.setV1 v).key = s.key := rfl
@[simp] theorem State.setV1_v0 (s : State) (v : Word) : (s.setV1 v).v0 = s.v0 := rfl
@[simp] theorem State.setV1_v1 (s : State) (v : Word) : (s.setV1 v).v1 = v := rfl
@[simp] theorem State.setV1_seed (s : State) (v : Word) : (s.setV1 v).seed = s.seed := rfl
@[simp] theorem State.setV1_engine (s : State) (v : Word) : (s.setV1 v).engine = s.engine := rfl
@[simp] theorem State.setV1_resetIn (s : State) (v : Word) : (s.setV1 v).resetIn = s.resetIn := rfl
@[simp] theorem State.setV1_draws (s : State) (v : Word) : (s.setV1 v).draws = s.draws := rfl
@[simp] theorem State.setV1_hostProg (s : State) (v : Word) : (s.setV1 v).hostProg = s.hostProg := rfl
@[simp] theorem State.setV1_hostPos (s : State) (v : Word) : (s.setV1 v).hostPos = s.hostPos := rfl
@[simp] theorem State.setV1_hostVars (s : State) (v : Word) : (s.setV1 v).hostVars = s.hostVars := rfl

/-! setSeed -/

@[simp] theorem State.setSeed_cmd (s : State) (v : SeedBuffer) : (s.setSeed v).cmd = s.cmd := rfl
@[simp] theorem State.setSeed_status (s : State) (v : SeedBuffer) : (s.setSeed v).status = s.status := rfl
@[simp] theorem State.setSeed_uid0 (s : State) (v : SeedBuffer) : (s.setSeed v).uid0 = s.uid0 := rfl
@[simp] theorem State.setSeed_uid1 (s : State) (v : SeedBuffer) : (s.setSeed v).uid1 = s.uid1 := rfl
@[simp] theorem State.setSeed_result (s : State) (v : SeedBuffer) : (s.setSeed v).result = s.result := rfl
@[simp] theorem State.setSeed_opa (s : State) (v : SeedBuffer) : (s.setSeed v).opa = s.opa := rfl
@[simp] theorem State.setSeed_opb (s : State) (v : SeedBuffer) : (s.setSeed v).opb = s.opb := rfl
@[simp] theorem State.setSeed_pwd (s : State) (v : SeedBuffer) : (s.setSeed v).pwd = s.pwd := rfl
@[simp] theorem State.setSeed_key (s : State) (v : SeedBuffer) : (s.setSeed v).key = s.key := rfl
@[simp] theorem State.setSeed_v0 (s : State) (v : SeedBuffer) : (s.setSeed v).v0 = s.v0 := rfl
@[simp] theorem State.setSeed_v1 (s : State) (v : SeedBuffer) : (s.setSeed v).v1 = s.v1 := rfl
@[simp] theorem State.setSeed_seed (s : State) (v : SeedBuffer) : (s.setSeed v).seed = v := rfl
@[simp] theorem State.setSeed_engine (s : State) (v : SeedBuffer) : (s.setSeed v).engine = s.engine := rfl
@[simp] theorem State.setSeed_resetIn (s : State) (v : SeedBuffer) : (s.setSeed v).resetIn = s.resetIn := rfl
@[simp] theorem State.setSeed_draws (s : State) (v : SeedBuffer) : (s.setSeed v).draws = s.draws := rfl
@[simp] theorem State.setSeed_hostProg (s : State) (v : SeedBuffer) : (s.setSeed v).hostProg = s.hostProg := rfl
@[simp] theorem State.setSeed_hostPos (s : State) (v : SeedBuffer) : (s.setSeed v).hostPos = s.hostPos := rfl
@[simp] theorem State.setSeed_hostVars (s : State) (v : SeedBuffer) : (s.setSeed v).hostVars = s.hostVars := rfl

/-! setEngine -/

@[simp] theorem State.setEngine_cmd (s : State) (v : Engine) : (s.setEngine v).cmd = s.cmd := rfl
@[simp] theorem State.setEngine_status (s : State) (v : Engine) : (s.setEngine v).status = s.status := rfl
@[simp] theorem State.setEngine_uid0 (s : State) (v : Engine) : (s.setEngine v).uid0 = s.uid0 := rfl
@[simp] theorem State.setEngine_uid1 (s : State) (v : Engine) : (s.setEngine v).uid1 = s.uid1 := rfl
@[simp] theorem State.setEngine_result (s : State) (v : Engine) : (s.setEngine v).result = s.result := rfl
@[simp] theorem State.setEngine_opa (s : State) (v : Engine) : (s.setEngine v).opa = s.opa := rfl
@[simp] theorem State.setEngine_opb (s : State) (v : Engine) : (s.setEngine v).opb = s.opb := rfl
@[simp] theorem State.setEngine_pwd (s : State) (v : Engine) : (s.setEngine v).pwd = s.pwd := rfl
@[simp] theorem State.setEngine_key (s : State) (v : Engine) : (s.setEngine v).key = s.key := rfl
@[simp] theorem State.setEngine_v0 (s : State) (v : Engine) : (s.setEngine v).v0 = s.v0 := rfl
@[simp] theorem State.setEngine_v1 (s : State) (v : Engine) : (s.setEngine v).v1 = s.v1 := rfl
@[simp] theorem State.setEngine_seed (s : State) (v : Engine) : (s.setEngine v).seed = s.seed := rfl
@[simp] theorem State.setEngine_engine (s : State) (v : Engine) : (s.setEngine v).engine = v := rfl
@[simp] theorem State.setEngine_resetIn (s : State) (v : Engine) : (s.setEngine v).resetIn = s.resetIn := rfl
@[simp] theorem State.setEngine_draws (s : State) (v : Engine) : (s.setEngine v).draws = s.draws := rfl
@[simp] theorem State.setEngine_hostProg (s : State) (v : Engine) : (s.setEngine v).hostProg = s.hostProg := rfl
@[simp] theorem State.setEngine_hostPos (s : State) (v : Engine) : (s.setEngine v).hostPos = s.hostPos := rfl
@[simp] theorem State.setEngine_hostVars (s : State) (v : Engine) : (s.setEngine v).hostVars = s.hostVars := rfl

/-! setDraws -/

@[simp] theorem State.setDraws_cmd (s : State) (v : Nat) : (s.setDraws v).cmd = s.cmd := rfl
@[simp] theorem State.setDraws_status (s : State) (v : Nat) : (s.setDraws v).status = s.status := rfl
@[simp] theorem State.setDraws_uid0 (s : State) (v : Nat) : (s.setDraws v).uid0 = s.uid0 := rfl
@[simp] theorem State.setDraws_uid1 (s : State) (v : Nat) : (s.setDraws v).uid1 = s.uid1 := rfl
@[simp] theorem State.setDraws_result (s : State) (v : Nat) : (s.setDraws v).result = s.result := rfl
@[simp] theorem State.setDraws_opa (s : State) (v : Nat) : (s.setDraws v).opa = s.opa := rfl
@[simp] theorem State.setDraws_opb (s : State) (v : Nat) : (s.setDraws v).opb = s.opb := rfl
@[simp] theorem State.setDraws_pwd (s : State) (v : Nat) : (s.setDraws v).pwd = s.pwd := rfl
@[simp] theorem State.setDraws_key (s : State) (v : Nat) : (s.setDraws v).key = s.key := rfl
@[simp] theorem State.setDraws_v0 (s : State) (v : Nat) : (s.setDraws v).v0 = s.v0 := rfl
@[simp] theorem State.setDraws_v1 (s : State) (v : Nat) : (s.setDraws v).v1 = s.v1 := rfl
@[simp] theorem State.setDraws_seed (s : State) (v : Nat) : (s.setDraws v).seed = s.seed := rfl
@[simp] theorem State.setDraws_engine (s : State) (v : Nat) : (s.setDraws v).engine = s.engine := rfl
@[simp] theorem State.setDraws_resetIn (s : State) (v : Nat) : (s.setDraws v).resetIn = s.resetIn := rfl
@[simp] theorem State.setDraws_draws (s : State) (v : Nat) : (s.setDraws v).draws = v := rfl
@[simp] theorem State.setDraws_hostProg (s : State) (v : Nat) : (s.setDraws v).hostProg = s.hostProg := rfl
@[simp] theorem State.setDraws_hostPos (s : State) (v : Nat) : (s.setDraws v).hostPos = s.hostPos := rfl
@[simp] theorem State.setDraws_hostVars (s : State) (v : Nat) : (s.setDraws v).hostVars = s.hostVars := rfl

/-! setHostPos -/

@[simp] theorem State.setHostPos_cmd (s : State) (v : Nat) : (s.setHostPos v).cmd = s.cmd := rfl
@[simp] theorem State.setHostPos_status (s : State) (v : Nat) : (s.setHostPos v).status = s.status := rfl
@[simp] theorem State.setHostPos_uid0 (s : State) (v : Nat) : (s.setHostPos v).uid0 = s.uid0 := rfl
@[simp] theorem State.setHostPos_uid1 (s : State) (v : Nat) : (s.setHostPos v).uid1 = s.uid1 := rfl
@[simp] theorem State.setHostPos_result (s : State) (v : Nat) : (s.setHostPos v).result = s.result := rfl
@[simp] theorem State.setHostPos_opa (s : State) (v : Nat) : (s.setHostPos v).opa = s.opa := rfl
@[simp] theorem State.setHostPos_opb (s : State) (v : Nat) : (s.setHostPos v).opb = s.opb := rfl
@[simp] theorem State.setHostPos_pwd (s : State) (v : Nat) : (s.setHostPos v).pwd = s.pwd := rfl
@[simp] theorem State.setHostPos_key (s : State) (v : Nat) : (s.setHostPos v).key = s.key := rfl
@[simp] theorem State.setHostPos_v0 (s : State) (v : Nat) : (s.setHostPos v).v0 = s.v0 := rfl
@[simp] theorem State.setHostPos_v1 (s : State) (v : Nat) : (s.setHostPos v).v1 = s.v1 := rfl
@[simp] theorem State.setHostPos_seed (s : State) (v : Nat) : (s.setHostPos v).seed = s.seed := rfl
@[simp] theorem State.setHostPos_engine (s : State) (v : Nat) : (s.setHostPos v).engine = s.engine := rfl
@[simp] theorem State.setHostPos_resetIn (s : State) (v : Nat) : (s.setHostPos v).resetIn = s.resetIn := rfl
@[simp] theorem State.setHostPos_draws (s : State) (v : Nat) : (s.setHostPos v).draws = s.draws := rfl
@[simp] theorem State.setHostPos_hostProg (s : State) (v : Nat) : (s.setHostPos v).hostProg = s.hostProg := rfl
@[simp] theorem State.setHostPos_hostPos (s : State) (v : Nat) : (s.setHostPos v).hostPos = v := rfl
@[simp] theorem State.setHostPos_hostVars (s : State) (v : Nat) : (s.setHostPos v).hostVars = s.hostVars := rfl

/-! setHostVars -/

@[simp] theorem State.setHostVars_cmd (s : State) (v : List (Nat × Word)) : (s.setHostVars v).cmd = s.cmd := rfl
@[simp] theorem State.setHostVars_status (s : State) (v : List (Nat × Word)) : (s.setHostVars v).status = s.status := rfl
@[simp] theorem State.setHostVars_uid0 (s : State) (v : List (Nat × Word)) : (s.setHostVars v).uid0 = s.uid0 := rfl
@[simp] theorem State.setHostVars_uid1 (s : State) (v : List (Nat × Word)) : (s.setHostVars v).uid1 = s.uid1 := rfl
@[simp] theorem State.setHostVars_result (s : State) (v : List (Nat × Word)) : (s.setHostVars v).result = s.result := rfl
@[simp] theorem State.setHostVars_opa (s : State) (v : List (Nat × Word)) : (s.setHostVars v).opa = s.opa := rfl
@[simp] theorem State.setHostVars_opb (s : State) (v : List (Nat × Word)) : (s.setHostVars v).opb = s.opb := rfl
@[simp] theorem State.setHostVars_pwd (s : State) (v : List (Nat × Word)) : (s.setHostVars v).pwd = s.pwd := rfl
@[simp] theorem State.setHostVars_key (s : State) (v : List (Nat × Word)) : (s.setHostVars v).key = s.key := rfl
@[simp] theorem State.setHostVars_v0 (s : State) (v : List (Nat × Word)) : (s.setHostVars v).v0 = s.v0 := rfl
@[simp] theorem State.setHostVars_v1 (s : State) (v : List (Nat × Word)) : (s.setHostVars v).v1 = s.v1 := rfl
@[simp] theorem State.setHostVars_seed (s : State) (v : List (Nat × Word)) : (s.setHostVars v).seed = s.seed := rfl
@[simp] theorem State.setHostVars_engine (s : State) (v : List (Nat × Word)) : (s.setHostVars v).engine = s.engine := rfl
@[simp] theorem State.setHostVars_resetIn (s : State) (v : List (Nat × Word)) : (s.setHostVars v).resetIn = s.resetIn := rfl
@[simp] theorem State.setHostVars_draws (s : State) (v : List (Nat × Word)) : (s.setHostVars v).draws = s.draws := rfl
@[simp] theorem State.setHostVars_hostProg (s : State) (v : List (Nat × Word)) : (s.setHostVars v).hostProg = s.hostProg := rfl
@[simp] theorem State.setHostVars_hostPos (s : State) (v : List (Nat × Word)) : (s.setHostVars v).hostPos = s.hostPos := rfl
@[simp] theorem State.setHostVars_hostVars (s : State) (v : List (Nat × Word)) : (s.setHostVars v).hostVars = v := rfl

end Sys2Proof.Machine
end

