-- ==== Sys2Proof/Laws/Ops.lean ====
section
/-! SUPPORT. What each shared operation leaves in each field, and the spec lemma of each host access. -/

namespace Sys2Proof.Machine

/-! completeOk -/

@[simp] theorem State.completeOk_cmd (s : State) : (s.completeOk).cmd = s.cmd := rfl
@[simp] theorem State.completeOk_status (s : State) : (s.completeOk).status = statusOk s.status := rfl
@[simp] theorem State.completeOk_uid0 (s : State) : (s.completeOk).uid0 = s.uid0 := rfl
@[simp] theorem State.completeOk_uid1 (s : State) : (s.completeOk).uid1 = s.uid1 := rfl
@[simp] theorem State.completeOk_result (s : State) : (s.completeOk).result = s.result := rfl
@[simp] theorem State.completeOk_opa (s : State) : (s.completeOk).opa = s.opa := rfl
@[simp] theorem State.completeOk_opb (s : State) : (s.completeOk).opb = s.opb := rfl
@[simp] theorem State.completeOk_pwd (s : State) : (s.completeOk).pwd = s.pwd := rfl
@[simp] theorem State.completeOk_key (s : State) : (s.completeOk).key = s.key := rfl
@[simp] theorem State.completeOk_v0 (s : State) : (s.completeOk).v0 = s.v0 := rfl
@[simp] theorem State.completeOk_v1 (s : State) : (s.completeOk).v1 = s.v1 := rfl
@[simp] theorem State.completeOk_seed (s : State) : (s.completeOk).seed = s.seed := rfl
@[simp] theorem State.completeOk_engine (s : State) : (s.completeOk).engine = .idle := rfl
@[simp] theorem State.completeOk_resetIn (s : State) : (s.completeOk).resetIn = s.resetIn := rfl
@[simp] theorem State.completeOk_draws (s : State) : (s.completeOk).draws = s.draws := rfl
@[simp] theorem State.completeOk_hostProg (s : State) : (s.completeOk).hostProg = s.hostProg := rfl
@[simp] theorem State.completeOk_hostPos (s : State) : (s.completeOk).hostPos = s.hostPos := rfl
@[simp] theorem State.completeOk_hostVars (s : State) : (s.completeOk).hostVars = s.hostVars := rfl

/-! raise -/

@[simp] theorem State.raise_cmd (s : State) (e : ErrCode) : (s.raise e).cmd = s.cmd := rfl
@[simp] theorem State.raise_status (s : State) (e : ErrCode) : (s.raise e).status = statusError e := rfl
@[simp] theorem State.raise_uid0 (s : State) (e : ErrCode) : (s.raise e).uid0 = s.uid0 := rfl
@[simp] theorem State.raise_uid1 (s : State) (e : ErrCode) : (s.raise e).uid1 = s.uid1 := rfl
@[simp] theorem State.raise_result (s : State) (e : ErrCode) : (s.raise e).result = s.result := rfl
@[simp] theorem State.raise_opa (s : State) (e : ErrCode) : (s.raise e).opa = s.opa := rfl
@[simp] theorem State.raise_opb (s : State) (e : ErrCode) : (s.raise e).opb = s.opb := rfl
@[simp] theorem State.raise_pwd (s : State) (e : ErrCode) : (s.raise e).pwd = s.pwd := rfl
@[simp] theorem State.raise_key (s : State) (e : ErrCode) : (s.raise e).key = s.key := rfl
@[simp] theorem State.raise_v0 (s : State) (e : ErrCode) : (s.raise e).v0 = s.v0 := rfl
@[simp] theorem State.raise_v1 (s : State) (e : ErrCode) : (s.raise e).v1 = s.v1 := rfl
@[simp] theorem State.raise_seed (s : State) (e : ErrCode) : (s.raise e).seed = s.seed := rfl
@[simp] theorem State.raise_engine (s : State) (e : ErrCode) : (s.raise e).engine = .idle := rfl
@[simp] theorem State.raise_resetIn (s : State) (e : ErrCode) : (s.raise e).resetIn = s.resetIn := rfl
@[simp] theorem State.raise_draws (s : State) (e : ErrCode) : (s.raise e).draws = s.draws := rfl
@[simp] theorem State.raise_hostProg (s : State) (e : ErrCode) : (s.raise e).hostProg = s.hostProg := rfl
@[simp] theorem State.raise_hostPos (s : State) (e : ErrCode) : (s.raise e).hostPos = s.hostPos := rfl
@[simp] theorem State.raise_hostVars (s : State) (e : ErrCode) : (s.raise e).hostVars = s.hostVars := rfl

/-! draw -/

@[simp] theorem State.draw_cmd (s : State) : (s.draw).cmd = s.cmd := rfl
@[simp] theorem State.draw_status (s : State) : (s.draw).status = s.status := rfl
@[simp] theorem State.draw_uid0 (s : State) : (s.draw).uid0 = s.uid0 := rfl
@[simp] theorem State.draw_uid1 (s : State) : (s.draw).uid1 = s.uid1 := rfl
@[simp] theorem State.draw_result (s : State) : (s.draw).result = s.result := rfl
@[simp] theorem State.draw_opa (s : State) : (s.draw).opa = s.opa := rfl
@[simp] theorem State.draw_opb (s : State) : (s.draw).opb = s.opb := rfl
@[simp] theorem State.draw_pwd (s : State) : (s.draw).pwd = s.pwd := rfl
@[simp] theorem State.draw_key (s : State) : (s.draw).key = s.key := rfl
@[simp] theorem State.draw_v0 (s : State) : (s.draw).v0 = s.v0 := rfl
@[simp] theorem State.draw_v1 (s : State) : (s.draw).v1 = s.v1 := rfl
@[simp] theorem State.draw_seed (s : State) : (s.draw).seed = s.seed := rfl
@[simp] theorem State.draw_engine (s : State) : (s.draw).engine = s.engine := rfl
@[simp] theorem State.draw_resetIn (s : State) : (s.draw).resetIn = s.resetIn := rfl
@[simp] theorem State.draw_draws (s : State) : (s.draw).draws = s.draws + 1 := rfl
@[simp] theorem State.draw_hostProg (s : State) : (s.draw).hostProg = s.hostProg := rfl
@[simp] theorem State.draw_hostPos (s : State) : (s.draw).hostPos = s.hostPos := rfl
@[simp] theorem State.draw_hostVars (s : State) : (s.draw).hostVars = s.hostVars := rfl

/-! accept -/

@[simp] theorem State.accept_cmd (s : State) (w : Word) : (s.accept w).cmd = w := rfl
@[simp] theorem State.accept_status (s : State) (w : Word) : (s.accept w).status = statusAccept s.status := rfl
@[simp] theorem State.accept_uid0 (s : State) (w : Word) : (s.accept w).uid0 = s.uid0 := rfl
@[simp] theorem State.accept_uid1 (s : State) (w : Word) : (s.accept w).uid1 = s.uid1 := rfl
@[simp] theorem State.accept_result (s : State) (w : Word) : (s.accept w).result = s.result := rfl
@[simp] theorem State.accept_opa (s : State) (w : Word) : (s.accept w).opa = s.opa := rfl
@[simp] theorem State.accept_opb (s : State) (w : Word) : (s.accept w).opb = s.opb := rfl
@[simp] theorem State.accept_pwd (s : State) (w : Word) : (s.accept w).pwd = s.pwd := rfl
@[simp] theorem State.accept_key (s : State) (w : Word) : (s.accept w).key = s.key := rfl
@[simp] theorem State.accept_v0 (s : State) (w : Word) : (s.accept w).v0 = s.v0 := rfl
@[simp] theorem State.accept_v1 (s : State) (w : Word) : (s.accept w).v1 = s.v1 := rfl
@[simp] theorem State.accept_seed (s : State) (w : Word) : (s.accept w).seed = s.seed := rfl
@[simp] theorem State.accept_engine (s : State) (w : Word) : (s.accept w).engine = .busy w (Config.latency s.draws) := rfl
@[simp] theorem State.accept_resetIn (s : State) (w : Word) : (s.accept w).resetIn = s.resetIn := rfl
@[simp] theorem State.accept_draws (s : State) (w : Word) : (s.accept w).draws = s.draws + 1 := rfl
@[simp] theorem State.accept_hostProg (s : State) (w : Word) : (s.accept w).hostProg = s.hostProg := rfl
@[simp] theorem State.accept_hostPos (s : State) (w : Word) : (s.accept w).hostPos = s.hostPos := rfl
@[simp] theorem State.accept_hostVars (s : State) (w : Word) : (s.accept w).hostVars = s.hostVars := rfl

/-! blockReset -/

@[simp] theorem State.blockReset_cmd (s : State) : (s.blockReset).cmd = State.reset.cmd := rfl
@[simp] theorem State.blockReset_status (s : State) : (s.blockReset).status = State.reset.status := rfl
@[simp] theorem State.blockReset_uid0 (s : State) : (s.blockReset).uid0 = State.reset.uid0 := rfl
@[simp] theorem State.blockReset_uid1 (s : State) : (s.blockReset).uid1 = State.reset.uid1 := rfl
@[simp] theorem State.blockReset_result (s : State) : (s.blockReset).result = State.reset.result := rfl
@[simp] theorem State.blockReset_opa (s : State) : (s.blockReset).opa = State.reset.opa := rfl
@[simp] theorem State.blockReset_opb (s : State) : (s.blockReset).opb = State.reset.opb := rfl
@[simp] theorem State.blockReset_pwd (s : State) : (s.blockReset).pwd = State.reset.pwd := rfl
@[simp] theorem State.blockReset_key (s : State) : (s.blockReset).key = State.reset.key := rfl
@[simp] theorem State.blockReset_v0 (s : State) : (s.blockReset).v0 = State.reset.v0 := rfl
@[simp] theorem State.blockReset_v1 (s : State) : (s.blockReset).v1 = State.reset.v1 := rfl
@[simp] theorem State.blockReset_seed (s : State) : (s.blockReset).seed = State.reset.seed := rfl
@[simp] theorem State.blockReset_engine (s : State) : (s.blockReset).engine = State.reset.engine := rfl
@[simp] theorem State.blockReset_resetIn (s : State) : (s.blockReset).resetIn = State.reset.resetIn := rfl
@[simp] theorem State.blockReset_draws (s : State) : (s.blockReset).draws = s.draws := rfl
@[simp] theorem State.blockReset_hostProg (s : State) : (s.blockReset).hostProg = s.hostProg := rfl
@[simp] theorem State.blockReset_hostPos (s : State) : (s.blockReset).hostPos = s.hostPos := rfl
@[simp] theorem State.blockReset_hostVars (s : State) : (s.blockReset).hostVars = s.hostVars := rfl

@[simp] theorem mapNext_next (f : State → State) (s : State) : mapNext f (.next s) = .next (f s) := rfl
@[simp] theorem mapNext_fault (f : State → State) (r : Fault) : mapNext f (.fault r) = .fault r := rfl
@[simp] theorem mapNext_refused (f : State → State) (r : Refusal) : mapNext f (.refused r) = .refused r := rfl

/-- The offset of a register leads back to the register (R19). -/
@[simp] theorem regAt_regOffset (r : Reg) : regAt (regOffset r) = some r := by
  revert r
  have h : ∀ r ∈ allRegs, regAt (regOffset r) = some r := by decide
  intro r
  apply h
  cases r with
  | key j => revert j; decide
  | seed i => revert i; decide
  | _ => decide

/-- A register found at an offset has that offset (R19). -/
theorem regOffset_of_regAt {off : Nat} {r : Reg} (h : regAt off = some r) : regOffset r = off := by
  simpa using List.find?_some h

@[simp] theorem readOffset_regOffset (s : State) (r : Reg) : s.readOffset (regOffset r) = s.read r := by
  simp [State.readOffset]

@[simp] theorem writeOffset_regOffset (s : State) (r : Reg) (v : Word) :
    s.writeOffset (regOffset r) v = s.write r v := by
  simp [State.writeOffset]

/-- A read of a register looks at the block's registers only. -/
theorem read_congr {s t : State} (h0 : t.cmd = s.cmd) (h1 : t.status = s.status) (h2 : t.uid0 = s.uid0)
    (h3 : t.uid1 = s.uid1) (h4 : t.result = s.result) (h5 : t.opa = s.opa) (h6 : t.opb = s.opb)
    (h7 : t.pwd = s.pwd) (h8 : t.key = s.key) (h9 : t.v0 = s.v0) (h10 : t.v1 = s.v1)
    (h11 : t.seed = s.seed) (r : Reg) : t.read r = s.read r := by
  cases r <;> simp [State.read, *]

/-- While the block is not busy, a host read returns the register's value and changes nothing (R48). -/
theorem hostRead_idle {s : State} (off : Nat) (h : statusBusy s.status = false) :
    hostRead off s = (s.readOffset off, s) := by
  simp [hostRead, h]

/-- What an accepted host write that does not stop does (R124): while busy, only STATUS is written. -/
theorem hostWrite_next {off : Nat} {v : Word} {s t : State} (h : hostWrite off v s = .next t) :
    t = s.writeOffset off v ∧ (statusBusy s.status = true → off = 0x04) := by
  unfold hostWrite at h
  split at h
  · cases h
  · rename_i hb
    cases h
    refine ⟨rfl, fun hbusy => ?_⟩
    simpa [hbusy] using hb

/-- A host write stops only with the host hazard, and only while busy (R124). -/
theorem hostWrite_stops {off : Nat} {v : Word} {s : State} :
    hostWrite off v s = .fault .hostHazard ∨ ∃ t, hostWrite off v s = .next t := by
  unfold hostWrite
  split
  · exact .inl rfl
  · exact .inr ⟨_, rfl⟩

/-- Every register has a bus address at which a 32-bit access is accepted (R44). -/
@[simp] theorem acceptedOffset_regOffset (r : Reg) :
    acceptedOffset (Config.base + regOffset r) 4 = some (regOffset r) := by
  have h : regOffset r < 0x80 ∧ regOffset r % 4 = 0 := by
    cases r with
    | key j => have := j.isLt; simp only [regOffset]; omega
    | seed i => have := i.isLt; simp only [regOffset]; omega
    | _ => decide
  unfold acceptedOffset
  rw [if_pos (by omega)]
  congr 1
  omega

/-- While busy, no register but STATUS can be written (R124). -/
theorem hostWrite_busy {s : State} {r : Reg} (v : Word) (h : statusBusy s.status = true) (hr : r ≠ .status) :
    hostWrite (regOffset r) v s = .fault .hostHazard := by
  have hoff : regOffset r ≠ 0x04 := by cases r <;> simp [regOffset] at hr ⊢ <;> omega
  simp [hostWrite, h, hoff]

/-- A write of STATUS goes through, busy or not (R21). -/
theorem hostWrite_status (s : State) (v : Word) :
    hostWrite (regOffset .status) v s = .next (s.setStatus (statusWrite s.status v)) := by
  have h : hostWrite (regOffset .status) v s = .next (s.writeOffset (regOffset .status) v) := by
    simp [hostWrite, regOffset]
  rw [h, writeOffset_regOffset, State.write]

end Sys2Proof.Machine
end

