-- ==== Sys2Proof/Laws/Exec.lean ====
section
/-! SUPPORT. What a complete step can do, said once. -/

namespace Sys2Proof.Machine

/-! What the derivation and block operations leave in each field. -/

@[simp] theorem State.setBlock_cmd (s : State) (b : Word × Word) : (s.setBlock b).cmd = s.cmd := by
  simp [State.setBlock]
@[simp] theorem State.setBlock_status (s : State) (b : Word × Word) : (s.setBlock b).status = s.status := by
  simp [State.setBlock]
@[simp] theorem State.setBlock_uid0 (s : State) (b : Word × Word) : (s.setBlock b).uid0 = s.uid0 := by
  simp [State.setBlock]
@[simp] theorem State.setBlock_uid1 (s : State) (b : Word × Word) : (s.setBlock b).uid1 = s.uid1 := by
  simp [State.setBlock]
@[simp] theorem State.setBlock_result (s : State) (b : Word × Word) : (s.setBlock b).result = s.result := by
  simp [State.setBlock]
@[simp] theorem State.setBlock_opa (s : State) (b : Word × Word) : (s.setBlock b).opa = s.opa := by
  simp [State.setBlock]
@[simp] theorem State.setBlock_opb (s : State) (b : Word × Word) : (s.setBlock b).opb = s.opb := by
  simp [State.setBlock]
@[simp] theorem State.setBlock_pwd (s : State) (b : Word × Word) : (s.setBlock b).pwd = s.pwd := by
  simp [State.setBlock]
@[simp] theorem State.setBlock_key (s : State) (b : Word × Word) : (s.setBlock b).key = s.key := by
  simp [State.setBlock]
@[simp] theorem State.setBlock_v0 (s : State) (b : Word × Word) : (s.setBlock b).v0 = b.1 := by
  simp [State.setBlock]
@[simp] theorem State.setBlock_v1 (s : State) (b : Word × Word) : (s.setBlock b).v1 = b.2 := by
  simp [State.setBlock]
@[simp] theorem State.setBlock_seed (s : State) (b : Word × Word) : (s.setBlock b).seed = s.seed := by
  simp [State.setBlock]
@[simp] theorem State.setBlock_engine (s : State) (b : Word × Word) : (s.setBlock b).engine = s.engine := by
  simp [State.setBlock]
@[simp] theorem State.setBlock_resetIn (s : State) (b : Word × Word) : (s.setBlock b).resetIn = s.resetIn := by
  simp [State.setBlock]
@[simp] theorem State.setBlock_draws (s : State) (b : Word × Word) : (s.setBlock b).draws = s.draws := by
  simp [State.setBlock]
@[simp] theorem State.setBlock_hostProg (s : State) (b : Word × Word) : (s.setBlock b).hostProg = s.hostProg := by
  simp [State.setBlock]
@[simp] theorem State.setBlock_hostPos (s : State) (b : Word × Word) : (s.setBlock b).hostPos = s.hostPos := by
  simp [State.setBlock]
@[simp] theorem State.setBlock_hostVars (s : State) (b : Word × Word) : (s.setBlock b).hostVars = s.hostVars := by
  simp [State.setBlock]

@[simp] theorem State.seedPwd_cmd (s : State) : (s.seedPwd).cmd = s.cmd := by
  simp [State.seedPwd]
@[simp] theorem State.seedPwd_status (s : State) : (s.seedPwd).status = s.status := by
  simp [State.seedPwd]
@[simp] theorem State.seedPwd_uid0 (s : State) : (s.seedPwd).uid0 = s.uid0 := by
  simp [State.seedPwd]
@[simp] theorem State.seedPwd_uid1 (s : State) : (s.seedPwd).uid1 = s.uid1 := by
  simp [State.seedPwd]
@[simp] theorem State.seedPwd_result (s : State) : (s.seedPwd).result = s.result := by
  simp [State.seedPwd]
@[simp] theorem State.seedPwd_opa (s : State) : (s.seedPwd).opa = s.opa := by
  simp [State.seedPwd]
@[simp] theorem State.seedPwd_opb (s : State) : (s.seedPwd).opb = s.opb := by
  simp [State.seedPwd]
@[simp] theorem State.seedPwd_pwd (s : State) : (s.seedPwd).pwd = s.pwd := by
  simp [State.seedPwd]
@[simp] theorem State.seedPwd_key (s : State) : (s.seedPwd).key = s.key := by
  simp [State.seedPwd]
@[simp] theorem State.seedPwd_v0 (s : State) : (s.seedPwd).v0 = s.v0 := by
  simp [State.seedPwd]
@[simp] theorem State.seedPwd_v1 (s : State) : (s.seedPwd).v1 = s.v1 := by
  simp [State.seedPwd]
@[simp] theorem State.seedPwd_seed (s : State) : (s.seedPwd).seed = Machine.seedPwd Config.pwdPad s.uid s.seed := by
  simp [State.seedPwd]
@[simp] theorem State.seedPwd_engine (s : State) : (s.seedPwd).engine = s.engine := by
  simp [State.seedPwd]
@[simp] theorem State.seedPwd_resetIn (s : State) : (s.seedPwd).resetIn = s.resetIn := by
  simp [State.seedPwd]
@[simp] theorem State.seedPwd_draws (s : State) : (s.seedPwd).draws = s.draws := by
  simp [State.seedPwd]
@[simp] theorem State.seedPwd_hostProg (s : State) : (s.seedPwd).hostProg = s.hostProg := by
  simp [State.seedPwd]
@[simp] theorem State.seedPwd_hostPos (s : State) : (s.seedPwd).hostPos = s.hostPos := by
  simp [State.seedPwd]
@[simp] theorem State.seedPwd_hostVars (s : State) : (s.seedPwd).hostVars = s.hostVars := by
  simp [State.seedPwd]

@[simp] theorem State.seedKey_cmd (s : State) (count : Nat) : (s.seedKey count).cmd = s.cmd := by
  simp [State.seedKey]
@[simp] theorem State.seedKey_status (s : State) (count : Nat) : (s.seedKey count).status = s.status := by
  simp [State.seedKey]
@[simp] theorem State.seedKey_uid0 (s : State) (count : Nat) : (s.seedKey count).uid0 = s.uid0 := by
  simp [State.seedKey]
@[simp] theorem State.seedKey_uid1 (s : State) (count : Nat) : (s.seedKey count).uid1 = s.uid1 := by
  simp [State.seedKey]
@[simp] theorem State.seedKey_result (s : State) (count : Nat) : (s.seedKey count).result = s.result := by
  simp [State.seedKey]
@[simp] theorem State.seedKey_opa (s : State) (count : Nat) : (s.seedKey count).opa = s.opa := by
  simp [State.seedKey]
@[simp] theorem State.seedKey_opb (s : State) (count : Nat) : (s.seedKey count).opb = s.opb := by
  simp [State.seedKey]
@[simp] theorem State.seedKey_pwd (s : State) (count : Nat) : (s.seedKey count).pwd = s.pwd := by
  simp [State.seedKey]
@[simp] theorem State.seedKey_key (s : State) (count : Nat) : (s.seedKey count).key = s.key := by
  simp [State.seedKey]
@[simp] theorem State.seedKey_v0 (s : State) (count : Nat) : (s.seedKey count).v0 = s.v0 := by
  simp [State.seedKey]
@[simp] theorem State.seedKey_v1 (s : State) (count : Nat) : (s.seedKey count).v1 = s.v1 := by
  simp [State.seedKey]
@[simp] theorem State.seedKey_seed (s : State) (count : Nat) : (s.seedKey count).seed = Machine.seedKey Config.keyPad s.uid count s.seed := by
  simp [State.seedKey]
@[simp] theorem State.seedKey_engine (s : State) (count : Nat) : (s.seedKey count).engine = s.engine := by
  simp [State.seedKey]
@[simp] theorem State.seedKey_resetIn (s : State) (count : Nat) : (s.seedKey count).resetIn = s.resetIn := by
  simp [State.seedKey]
@[simp] theorem State.seedKey_draws (s : State) (count : Nat) : (s.seedKey count).draws = s.draws := by
  simp [State.seedKey]
@[simp] theorem State.seedKey_hostProg (s : State) (count : Nat) : (s.seedKey count).hostProg = s.hostProg := by
  simp [State.seedKey]
@[simp] theorem State.seedKey_hostPos (s : State) (count : Nat) : (s.seedKey count).hostPos = s.hostPos := by
  simp [State.seedKey]
@[simp] theorem State.seedKey_hostVars (s : State) (count : Nat) : (s.seedKey count).hostVars = s.hostVars := by
  simp [State.seedKey]

@[simp] theorem State.scramble_cmd (s : State) (count : Nat) : (s.scramble count).cmd = s.cmd := by
  simp [State.scramble]
@[simp] theorem State.scramble_status (s : State) (count : Nat) : (s.scramble count).status = s.status := by
  simp [State.scramble]
@[simp] theorem State.scramble_uid0 (s : State) (count : Nat) : (s.scramble count).uid0 = s.uid0 := by
  simp [State.scramble]
@[simp] theorem State.scramble_uid1 (s : State) (count : Nat) : (s.scramble count).uid1 = s.uid1 := by
  simp [State.scramble]
@[simp] theorem State.scramble_result (s : State) (count : Nat) : (s.scramble count).result = mix (s.seedKey count).seed count := by
  simp [State.scramble]
@[simp] theorem State.scramble_opa (s : State) (count : Nat) : (s.scramble count).opa = s.opa := by
  simp [State.scramble]
@[simp] theorem State.scramble_opb (s : State) (count : Nat) : (s.scramble count).opb = s.opb := by
  simp [State.scramble]
@[simp] theorem State.scramble_pwd (s : State) (count : Nat) : (s.scramble count).pwd = s.pwd := by
  simp [State.scramble]
@[simp] theorem State.scramble_key (s : State) (count : Nat) : (s.scramble count).key = s.key := by
  simp [State.scramble]
@[simp] theorem State.scramble_v0 (s : State) (count : Nat) : (s.scramble count).v0 = s.v0 := by
  simp [State.scramble]
@[simp] theorem State.scramble_v1 (s : State) (count : Nat) : (s.scramble count).v1 = s.v1 := by
  simp [State.scramble]
@[simp] theorem State.scramble_seed (s : State) (count : Nat) : (s.scramble count).seed = (s.seedKey count).seed := by
  simp [State.scramble]
@[simp] theorem State.scramble_engine (s : State) (count : Nat) : (s.scramble count).engine = s.engine := by
  simp [State.scramble]
@[simp] theorem State.scramble_resetIn (s : State) (count : Nat) : (s.scramble count).resetIn = s.resetIn := by
  simp [State.scramble]
@[simp] theorem State.scramble_draws (s : State) (count : Nat) : (s.scramble count).draws = s.draws := by
  simp [State.scramble]
@[simp] theorem State.scramble_hostProg (s : State) (count : Nat) : (s.scramble count).hostProg = s.hostProg := by
  simp [State.scramble]
@[simp] theorem State.scramble_hostPos (s : State) (count : Nat) : (s.scramble count).hostPos = s.hostPos := by
  simp [State.scramble]
@[simp] theorem State.scramble_hostVars (s : State) (count : Nat) : (s.scramble count).hostVars = s.hostVars := by
  simp [State.scramble]

@[simp] theorem State.deriveKeyWord_cmd (s : State) (j : Fin 4) : (s.deriveKeyWord j).cmd = s.cmd := by
  simp [State.deriveKeyWord]
@[simp] theorem State.deriveKeyWord_status (s : State) (j : Fin 4) : (s.deriveKeyWord j).status = s.status := by
  simp [State.deriveKeyWord]
@[simp] theorem State.deriveKeyWord_uid0 (s : State) (j : Fin 4) : (s.deriveKeyWord j).uid0 = s.uid0 := by
  simp [State.deriveKeyWord]
@[simp] theorem State.deriveKeyWord_uid1 (s : State) (j : Fin 4) : (s.deriveKeyWord j).uid1 = s.uid1 := by
  simp [State.deriveKeyWord]
@[simp] theorem State.deriveKeyWord_result (s : State) (j : Fin 4) : (s.deriveKeyWord j).result = (s.scramble (3 + j.val)).result := by
  simp [State.deriveKeyWord]
@[simp] theorem State.deriveKeyWord_opa (s : State) (j : Fin 4) : (s.deriveKeyWord j).opa = s.opa := by
  simp [State.deriveKeyWord]
@[simp] theorem State.deriveKeyWord_opb (s : State) (j : Fin 4) : (s.deriveKeyWord j).opb = s.opb := by
  simp [State.deriveKeyWord]
@[simp] theorem State.deriveKeyWord_pwd (s : State) (j : Fin 4) : (s.deriveKeyWord j).pwd = s.pwd := by
  simp [State.deriveKeyWord]
@[simp] theorem State.deriveKeyWord_key (s : State) (j : Fin 4) : (s.deriveKeyWord j).key = s.key.set j (revb (s.scramble (3 + j.val)).result) := by
  simp [State.deriveKeyWord]
@[simp] theorem State.deriveKeyWord_v0 (s : State) (j : Fin 4) : (s.deriveKeyWord j).v0 = s.v0 := by
  simp [State.deriveKeyWord]
@[simp] theorem State.deriveKeyWord_v1 (s : State) (j : Fin 4) : (s.deriveKeyWord j).v1 = s.v1 := by
  simp [State.deriveKeyWord]
@[simp] theorem State.deriveKeyWord_seed (s : State) (j : Fin 4) : (s.deriveKeyWord j).seed = (s.scramble (3 + j.val)).seed := by
  simp [State.deriveKeyWord]
@[simp] theorem State.deriveKeyWord_engine (s : State) (j : Fin 4) : (s.deriveKeyWord j).engine = s.engine := by
  simp [State.deriveKeyWord]
@[simp] theorem State.deriveKeyWord_resetIn (s : State) (j : Fin 4) : (s.deriveKeyWord j).resetIn = s.resetIn := by
  simp [State.deriveKeyWord]
@[simp] theorem State.deriveKeyWord_draws (s : State) (j : Fin 4) : (s.deriveKeyWord j).draws = s.draws := by
  simp [State.deriveKeyWord]
@[simp] theorem State.deriveKeyWord_hostProg (s : State) (j : Fin 4) : (s.deriveKeyWord j).hostProg = s.hostProg := by
  simp [State.deriveKeyWord]
@[simp] theorem State.deriveKeyWord_hostPos (s : State) (j : Fin 4) : (s.deriveKeyWord j).hostPos = s.hostPos := by
  simp [State.deriveKeyWord]
@[simp] theorem State.deriveKeyWord_hostVars (s : State) (j : Fin 4) : (s.deriveKeyWord j).hostVars = s.hostVars := by
  simp [State.deriveKeyWord]

/-! The effect of each command that checks its argument, inside the argument's range and outside it. -/

theorem exec_packle {off : Nat} (s : State) (h : off ≤ 28) :
    exec (.packle off) s = .next (s.setResult (seedWord s.seed off)).completeOk := if_neg (by omega)

theorem exec_unpackle {off : Nat} (s : State) (h : off ≤ 28) :
    exec (.unpackle off) s = .next (s.setSeed (overwrite s.seed off (unpackLE s.opa))).completeOk :=
  if_neg (by omega)

theorem exec_seedKey {count : Nat} (s : State) (h : count ≤ 6) :
    exec (.seedKey count) s = .next (s.seedKey count).completeOk := if_neg (by omega)

theorem exec_mix {n : Nat} (s : State) (h : n ≤ 8) :
    exec (.mix n) s = .next (s.setResult (mix s.seed n)).completeOk := if_neg (by omega)

theorem exec_scramble {count : Nat} (s : State) (h : count ≤ 6) :
    exec (.scramble count) s = .next (s.scramble count).completeOk := if_neg (by omega)

/-! The effect of each command that cannot fail. -/

theorem exec_nop (s : State) : exec .nop s = .next s.completeOk := rfl

theorem exec_rotr (s : State) :
    exec .rotr s = .next (s.setResult (rotr s.opa (s.opb.extractLsb' 0 8))).completeOk := rfl

theorem exec_revb (s : State) : exec .revb s = .next (s.setResult (revb s.opa)).completeOk := rfl

theorem exec_seedPwd (s : State) : exec .seedPwd s = .next s.seedPwd.completeOk := rfl

theorem exec_derivePwd (s : State) :
    exec .derivePwd s =
      .next ((s.seedPwd.setResult (mix s.seedPwd.seed 8)).setPwd (mix s.seedPwd.seed 8)).completeOk := rfl

theorem exec_deriveKey (s : State) :
    exec .deriveKey s =
      .next ((((s.deriveKeyWord 0).deriveKeyWord 1).deriveKeyWord 2).deriveKeyWord 3).completeOk := rfl

theorem exec_teaEnc (s : State) :
    exec .teaEnc s = .next (s.setBlock (teaEncrypt s.key s.v0 s.v1)).completeOk := rfl

theorem exec_teaDec (s : State) :
    exec .teaDec s = .next (s.setBlock (teaDecrypt s.key s.v0 s.v1)).completeOk := rfl

/-- An argument outside the command's range: INVALID_ARGUMENT and nothing else (R100). -/
theorem exec_outOfRange (i : Instr) (s : State) (h : i.argInRange = false) :
    exec i s = .next (s.raise .invalidArgument) := by
  cases i with
  | packle n | unpackle n | seedKey n | mix n | scramble n =>
    simp only [Instr.argInRange, decide_eq_false_iff_not] at h
    exact if_pos (by omega)
  | _ => cases h

/-- `u` differs from `s` at most in the registers some command writes (the last column of R19). -/
structure State.SameButOutputs (s u : State) : Prop where
  cmd : u.cmd = s.cmd
  status : u.status = s.status
  uid0 : u.uid0 = s.uid0
  uid1 : u.uid1 = s.uid1
  opa : u.opa = s.opa
  opb : u.opb = s.opb
  engine : u.engine = s.engine
  resetIn : u.resetIn = s.resetIn
  draws : u.draws = s.draws
  hostProg : u.hostProg = s.hostProg
  hostPos : u.hostPos = s.hostPos
  hostVars : u.hostVars = s.hostVars

theorem State.SameButOutputs.refl (s : State) : s.SameButOutputs s :=
  ⟨rfl, rfl, rfl, rfl, rfl, rfl, rfl, rfl, rfl, rfl, rfl, rfl⟩

theorem State.SameButOutputs.trans {s t u : State} (h : s.SameButOutputs t) (k : t.SameButOutputs u) :
    s.SameButOutputs u :=
  ⟨k.1.trans h.1, k.2.trans h.2, k.3.trans h.3, k.4.trans h.4, k.5.trans h.5, k.6.trans h.6,
    k.7.trans h.7, k.8.trans h.8, k.9.trans h.9, k.10.trans h.10, k.11.trans h.11, k.12.trans h.12⟩

theorem setResult_sameButOutputs (s : State) (v : Word) : s.SameButOutputs (s.setResult v) :=
  ⟨rfl, rfl, rfl, rfl, rfl, rfl, rfl, rfl, rfl, rfl, rfl, rfl⟩

theorem setPwd_sameButOutputs (s : State) (v : Word) : s.SameButOutputs (s.setPwd v) :=
  ⟨rfl, rfl, rfl, rfl, rfl, rfl, rfl, rfl, rfl, rfl, rfl, rfl⟩

theorem setKey_sameButOutputs (s : State) (j : Fin 4) (v : Word) : s.SameButOutputs (s.setKey j v) :=
  ⟨rfl, rfl, rfl, rfl, rfl, rfl, rfl, rfl, rfl, rfl, rfl, rfl⟩

theorem setSeed_sameButOutputs (s : State) (b : SeedBuffer) : s.SameButOutputs (s.setSeed b) :=
  ⟨rfl, rfl, rfl, rfl, rfl, rfl, rfl, rfl, rfl, rfl, rfl, rfl⟩

theorem setBlock_sameButOutputs (s : State) (b : Word × Word) : s.SameButOutputs (s.setBlock b) :=
  ⟨rfl, rfl, rfl, rfl, rfl, rfl, rfl, rfl, rfl, rfl, rfl, rfl⟩

theorem scramble_sameButOutputs (s : State) (count : Nat) : s.SameButOutputs (s.scramble count) :=
  (setSeed_sameButOutputs s _).trans (setResult_sameButOutputs _ _)

theorem deriveKeyWord_sameButOutputs (s : State) (j : Fin 4) : s.SameButOutputs (s.deriveKeyWord j) :=
  (scramble_sameButOutputs s _).trans (setKey_sameButOutputs _ _ _)

/-- A command either raises an error and has no other effect, or changes output registers only and
completes without error. -/
theorem exec_cases (i : Instr) (s : State) :
    (∃ e, exec i s = .next (s.raise e)) ∨
    (∃ u, exec i s = .next u.completeOk ∧ s.SameButOutputs u) := by
  cases i with
  | nop => exact .inr ⟨s, rfl, .refl s⟩
  | rotr => exact .inr ⟨s.setResult _, rfl, setResult_sameButOutputs s _⟩
  | packle off =>
    simp only [exec, execPackle]
    split
    · exact .inl ⟨_, rfl⟩
    · exact .inr ⟨s.setResult _, rfl, setResult_sameButOutputs s _⟩
  | unpackle off =>
    simp only [exec, execUnpackle]
    split
    · exact .inl ⟨_, rfl⟩
    · exact .inr ⟨s.setSeed _, rfl, setSeed_sameButOutputs s _⟩
  | revb => exact .inr ⟨s.setResult _, rfl, setResult_sameButOutputs s _⟩
  | seedPwd => exact .inr ⟨s.seedPwd, rfl, setSeed_sameButOutputs s _⟩
  | seedKey count =>
    simp only [exec, execSeedKey]
    split
    · exact .inl ⟨_, rfl⟩
    · exact .inr ⟨s.seedKey count, rfl, setSeed_sameButOutputs s _⟩
  | mix n =>
    simp only [exec, execMix]
    split
    · exact .inl ⟨_, rfl⟩
    · exact .inr ⟨s.setResult _, rfl, setResult_sameButOutputs s _⟩
  | scramble count =>
    simp only [exec, execScramble]
    split
    · exact .inl ⟨_, rfl⟩
    · exact .inr ⟨s.scramble count, rfl, scramble_sameButOutputs s _⟩
  | derivePwd =>
    exact .inr ⟨(s.seedPwd.setResult (mix s.seedPwd.seed 8)).setPwd (mix s.seedPwd.seed 8), rfl,
      ((setSeed_sameButOutputs s _).trans (setResult_sameButOutputs _ _)).trans (setPwd_sameButOutputs _ _)⟩
  | deriveKey =>
    exact .inr ⟨(((s.deriveKeyWord 0).deriveKeyWord 1).deriveKeyWord 2).deriveKeyWord 3, rfl,
      (((deriveKeyWord_sameButOutputs s 0).trans (deriveKeyWord_sameButOutputs _ 1)).trans
        (deriveKeyWord_sameButOutputs _ 2)).trans (deriveKeyWord_sameButOutputs _ 3)⟩
  | teaEnc => exact .inr ⟨s.setBlock (teaEncrypt s.key s.v0 s.v1), rfl, setBlock_sameButOutputs s _⟩
  | teaDec => exact .inr ⟨s.setBlock (teaDecrypt s.key s.v0 s.v1), rfl, setBlock_sameButOutputs s _⟩

end Sys2Proof.Machine
end

