-- ==== Sys2Proof/Laws/HostVars.lean ====
section
/-! SUPPORT. The host's variables: read after write, and the canonical form kept. -/

namespace Sys2Proof.Machine

/-- Every listed number is above `k`. -/
theorem varGet_below {l : List (Nat × Word)} {k x : Nat} {v : Word} (h : varsWf ((k, v) :: l) = true)
    (hx : x ≤ k) : varGet l x = 0#32 := by
  induction l generalizing k v with
  | nil => rfl
  | cons p l ih =>
    obtain ⟨k', v'⟩ := p
    simp only [varsWf, Bool.and_eq_true, decide_eq_true_eq] at h
    rw [varGet, if_neg (by omega)]
    exact ih h.2 (by omega)

theorem varsWf_tail {p : Nat × Word} {l : List (Nat × Word)} (h : varsWf (p :: l) = true) :
    varsWf l = true := by
  cases l with
  | nil => rfl
  | cons q l => simp only [varsWf, Bool.and_eq_true] at h; exact h.2

/-- Reading back the variable just set. -/
theorem varGet_varSet_same (l : List (Nat × Word)) (x : Nat) (v : Word) (h : varsWf l = true) :
    varGet (varSet l x v) x = v := by
  induction l with
  | nil => by_cases hv : v = 0#32 <;> simp [varSet, varGet, hv]
  | cons p l ih =>
    obtain ⟨k, u⟩ := p
    have hlow : x ≤ k → varGet l x = 0#32 := varGet_below h
    simp only [varSet]
    by_cases h1 : x < k
    · have hne : ¬k = x := by omega
      by_cases hv : v = 0#32
      · simp [h1, hv, varGet, hne, hlow (by omega)]
      · simp [h1, hv, varGet]
    · by_cases h2 : x = k
      · by_cases hv : v = 0#32
        · simp [hv, h2]; rw [← h2]; exact hlow (by omega)
        · simp [h2, hv, varGet]
      · have hne : ¬k = x := by omega
        simp [h1, h2, varGet, hne, ih (varsWf_tail h)]

/-- Every other variable keeps its value. -/
theorem varGet_varSet_other (l : List (Nat × Word)) (x y : Nat) (v : Word) (hxy : y ≠ x) :
    varGet (varSet l x v) y = varGet l y := by
  induction l with
  | nil => by_cases hv : v = 0#32 <;> simp [varSet, varGet, hv, Ne.symm hxy]
  | cons p l ih =>
    obtain ⟨k, u⟩ := p
    simp only [varSet]
    by_cases h1 : x < k
    · by_cases hv : v = 0#32 <;> simp [h1, hv, varGet, Ne.symm hxy]
    · by_cases h2 : x = k
      · by_cases hv : v = 0#32 <;> simp [hv, h2, varGet, h2 ▸ Ne.symm hxy]
      · simp [h1, h2, varGet, ih]

/-- The canonical form with a bound: every number is above `k`. -/
theorem varsWf_cons_iff (k : Nat) (v : Word) (l : List (Nat × Word)) :
    varsWf ((k, v) :: l) = true ↔
      v ≠ 0#32 ∧ varsWf l = true ∧ ∀ p ∈ l.head?, k < p.1 := by
  cases l with
  | nil => simp [varsWf]
  | cons q l => obtain ⟨k', v'⟩ := q; simp [varsWf]; tauto

theorem varSet_head (l : List (Nat × Word)) (k x : Nat) (v : Word) (hx : k < x)
    (h : ∀ p ∈ l.head?, k < p.1) (hwf : varsWf l = true) : ∀ p ∈ (varSet l x v).head?, k < p.1 := by
  cases l with
  | nil => by_cases hv : v = 0#32 <;> simp [varSet, hv, hx]
  | cons q l =>
    obtain ⟨k', u⟩ := q
    have hk : k < k' := h (k', u) rfl
    have htail := ((varsWf_cons_iff k' u l).mp hwf).2.2
    simp only [varSet]
    by_cases h1 : x < k'
    · by_cases hv : v = 0#32 <;> simp [h1, hv, hx, hk]
    · by_cases h2 : x = k'
      · by_cases hv : v = 0#32
        · simp only [h2, lt_irrefl, if_false, if_true, hv]
          intro p hp
          exact lt_trans hk (htail p hp)
        · simp [h2, hv, hk]
      · simp [h1, h2, hk]

/-- A write keeps the canonical form. -/
theorem varsWf_varSet (l : List (Nat × Word)) (x : Nat) (v : Word) (h : varsWf l = true) :
    varsWf (varSet l x v) = true := by
  induction l with
  | nil => by_cases hv : v = 0#32 <;> simp [varSet, varsWf, hv]
  | cons p l ih =>
    obtain ⟨k, u⟩ := p
    obtain ⟨hu, hl, hh⟩ := (varsWf_cons_iff k u l).mp h
    simp only [varSet]
    by_cases h1 : x < k
    · by_cases hv : v = 0#32
      · simpa [h1, hv] using h
      · simp only [h1, if_true, hv, if_false]
        exact (varsWf_cons_iff x v _).mpr ⟨hv, h, by simpa using h1⟩
    · by_cases h2 : x = k
      · subst h2
        by_cases hv : v = 0#32
        · simpa [hv] using hl
        · simp only [lt_irrefl, if_true, hv, if_false]
          exact (varsWf_cons_iff x v l).mpr ⟨hv, hl, hh⟩
      · simp only [h1, if_false, h2]
        exact (varsWf_cons_iff k u _).mpr ⟨hu, ih hl, varSet_head l k x v (by omega) hh hl⟩

/-! What the host's own moves leave in each field. -/

@[simp] theorem State.hostNext_cmd (s : State) : (s.hostNext).cmd = s.cmd := rfl
@[simp] theorem State.hostNext_status (s : State) : (s.hostNext).status = s.status := rfl
@[simp] theorem State.hostNext_uid0 (s : State) : (s.hostNext).uid0 = s.uid0 := rfl
@[simp] theorem State.hostNext_uid1 (s : State) : (s.hostNext).uid1 = s.uid1 := rfl
@[simp] theorem State.hostNext_result (s : State) : (s.hostNext).result = s.result := rfl
@[simp] theorem State.hostNext_opa (s : State) : (s.hostNext).opa = s.opa := rfl
@[simp] theorem State.hostNext_opb (s : State) : (s.hostNext).opb = s.opb := rfl
@[simp] theorem State.hostNext_pwd (s : State) : (s.hostNext).pwd = s.pwd := rfl
@[simp] theorem State.hostNext_key (s : State) : (s.hostNext).key = s.key := rfl
@[simp] theorem State.hostNext_v0 (s : State) : (s.hostNext).v0 = s.v0 := rfl
@[simp] theorem State.hostNext_v1 (s : State) : (s.hostNext).v1 = s.v1 := rfl
@[simp] theorem State.hostNext_seed (s : State) : (s.hostNext).seed = s.seed := rfl
@[simp] theorem State.hostNext_engine (s : State) : (s.hostNext).engine = s.engine := rfl
@[simp] theorem State.hostNext_resetIn (s : State) : (s.hostNext).resetIn = s.resetIn := rfl
@[simp] theorem State.hostNext_draws (s : State) : (s.hostNext).draws = s.draws := rfl
@[simp] theorem State.hostNext_hostProg (s : State) : (s.hostNext).hostProg = s.hostProg := rfl
@[simp] theorem State.hostNext_hostPos (s : State) : (s.hostNext).hostPos = s.hostPos + 1 := rfl
@[simp] theorem State.hostNext_hostVars (s : State) : (s.hostNext).hostVars = s.hostVars := rfl

@[simp] theorem State.hostJump_cmd (s : State) (d : Int) : (s.hostJump d).cmd = s.cmd := rfl
@[simp] theorem State.hostJump_status (s : State) (d : Int) : (s.hostJump d).status = s.status := rfl
@[simp] theorem State.hostJump_uid0 (s : State) (d : Int) : (s.hostJump d).uid0 = s.uid0 := rfl
@[simp] theorem State.hostJump_uid1 (s : State) (d : Int) : (s.hostJump d).uid1 = s.uid1 := rfl
@[simp] theorem State.hostJump_result (s : State) (d : Int) : (s.hostJump d).result = s.result := rfl
@[simp] theorem State.hostJump_opa (s : State) (d : Int) : (s.hostJump d).opa = s.opa := rfl
@[simp] theorem State.hostJump_opb (s : State) (d : Int) : (s.hostJump d).opb = s.opb := rfl
@[simp] theorem State.hostJump_pwd (s : State) (d : Int) : (s.hostJump d).pwd = s.pwd := rfl
@[simp] theorem State.hostJump_key (s : State) (d : Int) : (s.hostJump d).key = s.key := rfl
@[simp] theorem State.hostJump_v0 (s : State) (d : Int) : (s.hostJump d).v0 = s.v0 := rfl
@[simp] theorem State.hostJump_v1 (s : State) (d : Int) : (s.hostJump d).v1 = s.v1 := rfl
@[simp] theorem State.hostJump_seed (s : State) (d : Int) : (s.hostJump d).seed = s.seed := rfl
@[simp] theorem State.hostJump_engine (s : State) (d : Int) : (s.hostJump d).engine = s.engine := rfl
@[simp] theorem State.hostJump_resetIn (s : State) (d : Int) : (s.hostJump d).resetIn = s.resetIn := rfl
@[simp] theorem State.hostJump_draws (s : State) (d : Int) : (s.hostJump d).draws = s.draws := rfl
@[simp] theorem State.hostJump_hostProg (s : State) (d : Int) : (s.hostJump d).hostProg = s.hostProg := rfl
@[simp] theorem State.hostJump_hostPos (s : State) (d : Int) : (s.hostJump d).hostPos = Int.toNat (s.hostPos + d) := rfl
@[simp] theorem State.hostJump_hostVars (s : State) (d : Int) : (s.hostJump d).hostVars = s.hostVars := rfl

@[simp] theorem State.setVar_cmd (s : State) (x : Nat) (v : Word) : (s.setVar x v).cmd = s.cmd := rfl
@[simp] theorem State.setVar_status (s : State) (x : Nat) (v : Word) : (s.setVar x v).status = s.status := rfl
@[simp] theorem State.setVar_uid0 (s : State) (x : Nat) (v : Word) : (s.setVar x v).uid0 = s.uid0 := rfl
@[simp] theorem State.setVar_uid1 (s : State) (x : Nat) (v : Word) : (s.setVar x v).uid1 = s.uid1 := rfl
@[simp] theorem State.setVar_result (s : State) (x : Nat) (v : Word) : (s.setVar x v).result = s.result := rfl
@[simp] theorem State.setVar_opa (s : State) (x : Nat) (v : Word) : (s.setVar x v).opa = s.opa := rfl
@[simp] theorem State.setVar_opb (s : State) (x : Nat) (v : Word) : (s.setVar x v).opb = s.opb := rfl
@[simp] theorem State.setVar_pwd (s : State) (x : Nat) (v : Word) : (s.setVar x v).pwd = s.pwd := rfl
@[simp] theorem State.setVar_key (s : State) (x : Nat) (v : Word) : (s.setVar x v).key = s.key := rfl
@[simp] theorem State.setVar_v0 (s : State) (x : Nat) (v : Word) : (s.setVar x v).v0 = s.v0 := rfl
@[simp] theorem State.setVar_v1 (s : State) (x : Nat) (v : Word) : (s.setVar x v).v1 = s.v1 := rfl
@[simp] theorem State.setVar_seed (s : State) (x : Nat) (v : Word) : (s.setVar x v).seed = s.seed := rfl
@[simp] theorem State.setVar_engine (s : State) (x : Nat) (v : Word) : (s.setVar x v).engine = s.engine := rfl
@[simp] theorem State.setVar_resetIn (s : State) (x : Nat) (v : Word) : (s.setVar x v).resetIn = s.resetIn := rfl
@[simp] theorem State.setVar_draws (s : State) (x : Nat) (v : Word) : (s.setVar x v).draws = s.draws := rfl
@[simp] theorem State.setVar_hostProg (s : State) (x : Nat) (v : Word) : (s.setVar x v).hostProg = s.hostProg := rfl
@[simp] theorem State.setVar_hostPos (s : State) (x : Nat) (v : Word) : (s.setVar x v).hostPos = s.hostPos := rfl
@[simp] theorem State.setVar_hostVars (s : State) (x : Nat) (v : Word) : (s.setVar x v).hostVars = varSet s.hostVars x v := rfl

end Sys2Proof.Machine
end

