-- ==== Sys2Proof/Laws/Step.lean ====
section
/-! SUPPORT. What a step can do, said once. -/

namespace Sys2Proof.Machine

/-- A complete step raises an error, or changes output registers only and completes without error. -/
theorem complete_cases (s : State) :
    (∃ e, complete s = .next (s.raise e)) ∨
    (∃ u, complete s = .next u.completeOk ∧ s.SameButOutputs u) := by
  unfold complete
  split
  · exact exec_cases _ s
  · exact .inl ⟨_, rfl⟩

/-- A step takes the reset, or completes a command whose latency has run out or whose host has ended,
or performs one host statement (with the latency counted down while busy), or waits. -/
theorem step_cases (s : State) :
    (s.resetIn = true ∧ step s = .next s.blockReset) ∨
    (s.resetIn = false ∧ (∃ w n, s.engine = .busy w n ∧ (n = 0 ∨ s.hostStmt? = none)) ∧
      step s = complete s) ∨
    (s.resetIn = false ∧ (∃ w n st, s.engine = .busy w (n + 1) ∧ s.hostStmt? = some st ∧
      step s = runStmt st (s.setEngine (.busy w n)))) ∨
    (s.resetIn = false ∧ s.engine = .idle ∧ (∃ st, s.hostStmt? = some st ∧ step s = runStmt st s)) ∨
    (s.resetIn = false ∧ s.engine = .idle ∧ s.hostStmt? = none ∧ step s = .next s) := by
  by_cases hr : s.resetIn = true
  · exact .inl ⟨hr, by simp [step, hr]⟩
  · simp only [Bool.not_eq_true] at hr
    cases he : s.engine with
    | idle =>
      cases hs : s.hostStmt? with
      | none => simp [hr, step, agentStep, he, hostStep, hs]
      | some st => simp [hr, step, agentStep, he, hostStep, hs]
    | busy w n =>
      cases n with
      | zero => simp [hr, step, agentStep, he]
      | succ n =>
        cases hs : s.hostStmt? with
        | none => simp [hr, step, agentStep, he, hs]
        | some st =>
          have hs' : (s.setEngine (.busy w n)).hostStmt? = some st := hs
          simp [hr, step, agentStep, he, hs, hostStep, hs']

end Sys2Proof.Machine
end

