-- ==== Sys2Proof/Laws/Legal.lean ====
section
/-! SUPPORT. What a legal state depends on, and runs one step at a time. -/

namespace Sys2Proof.Machine

/-- Whether a state is legal is a matter of STATUS, the engine, CMD and the host's variables. -/
theorem State.Legal.congr {s t : State} (h : s.Legal) (hst : t.status = s.status) (he : t.engine = s.engine)
    (hc : t.cmd = s.cmd) (hv : t.hostVars = s.hostVars) : t.Legal := by
  unfold State.Legal State.StatusLegal at *
  rw [hst, he, hc, hv]
  exact h

/-- A host variable set leaves a legal state legal. -/
theorem State.Legal.setVar {s : State} (h : s.Legal) (x : Nat) (v : Word) : (s.setVar x v).Legal :=
  ⟨h.1, h.2.1, varsWf_varSet _ _ _ h.2.2⟩

/-- The latency left does not matter for legality. -/
theorem State.Legal.setRemaining {s : State} {w : Word} {n m : Nat} (h : s.Legal) (he : s.engine = .busy w n) :
    (s.setEngine (.busy w m)).Legal := by
  obtain ⟨⟨hb, hd, hr, hc⟩, hw, hv⟩ := h
  rw [he] at hb hw
  exact ⟨⟨hb, hd, hr, hc⟩, hw, hv⟩

/-- A run of one step more starts with a step. -/
theorem run_succ {s t : State} (k : Nat) (h : step s = .next t) :
    Sys2Proof.core.run (k + 1) s = Sys2Proof.core.run k t := by
  have e : Sys2Proof.core.step = step := rfl
  simp only [Host.Core.run, e, h]

/-- A run that starts with a fault is that fault. -/
theorem run_of_fault {s : State} {f : Fault} (k : Nat) (h : step s = .fault f) :
    Sys2Proof.core.run (k + 1) s = .fault f := by
  have e : Sys2Proof.core.step = step := rfl
  simp only [Host.Core.run, e, h]

end Sys2Proof.Machine
end

