-- ==== Sys2Proof/Laws/PerInstr.lean ====
section
/-! SUPPORT. Statements about every instruction as syntax, one lemma for each constructor. -/

namespace Sys2Proof.Laws.EncodedFields

/-- The encoder puts the opcode in OP, zeros in RSV, and a well-formed argument in IMM5 (R57, R58). -/
def Statement (i : Instr) : Prop :=
  opField (encode i) = i.opcode ∧ rsvField (encode i) = 0#19 ∧
    (i.wellFormed = true → (immField (encode i)).toNat = i.imm)

/-- The statement holds of every instruction, by the fields of an assembled word. -/
theorem of_assemble (i : Instr) : Statement i := by
  refine ⟨opField_assemble _ _, rsvField_assemble _ _, fun h => ?_⟩
  have h' : i.imm ≤ 31 := by simpa [Instr.wellFormed] using h
  rw [encode, immField_assemble, BitVec.toNat_ofNat]
  omega

theorem nop : Statement .nop := of_assemble _
theorem rotr : Statement .rotr := of_assemble _
theorem packle (off : Nat) : Statement (.packle off) := of_assemble _
theorem unpackle (off : Nat) : Statement (.unpackle off) := of_assemble _
theorem revb : Statement .revb := of_assemble _
theorem seedPwd : Statement .seedPwd := of_assemble _
theorem seedKey (count : Nat) : Statement (.seedKey count) := of_assemble _
theorem mix (n : Nat) : Statement (.mix n) := of_assemble _
theorem scramble (count : Nat) : Statement (.scramble count) := of_assemble _
theorem derivePwd : Statement .derivePwd := of_assemble _
theorem deriveKey : Statement .deriveKey := of_assemble _
theorem teaEnc : Statement .teaEnc := of_assemble _
theorem teaDec : Statement .teaDec := of_assemble _

end Sys2Proof.Laws.EncodedFields
end

