-- ==== Sys2Proof/Laws/Transactions.lean ====
section
/-! SUPPORT. The transactions of a run, one step at a time. -/

namespace Sys2Proof.Machine

@[simp] theorem programTransactions_nil (vars : List (Nat × Word)) : programTransactions vars [] = [] := rfl

theorem programTransactions_cons (vars : List (Nat × Word)) (st : HostStmt) (prog : List HostStmt) :
    programTransactions vars (st :: prog) = (transactionOf vars st).toList ++ programTransactions vars prog := by
  cases h : transactionOf vars st <;> simp [programTransactions, h]

theorem programTransactions_append (vars : List (Nat × Word)) (p q : List HostStmt) :
    programTransactions vars (p ++ q) = programTransactions vars p ++ programTransactions vars q := by
  simp [programTransactions]

@[simp] theorem transactionsOfRun_zero (s : State) : transactionsOfRun 0 s = [] := rfl

theorem transactionsOfRun_succ {s t : State} (k : Nat) (h : step s = .next t) :
    transactionsOfRun (k + 1) s = s.transaction?.toList ++ transactionsOfRun k t := by
  simp [transactionsOfRun, h]

/-- A step that has a host statement performs it, on the same state but for the latency left. -/
theorem step_of_nextStmt {s : State} {st : HostStmt} (h : s.nextStmt? = some st) :
    s.hostStmt? = some st ∧ ∃ e, step s = runStmt st (s.setEngine e) := by
  unfold State.nextStmt? at h
  rcases step_cases s with ⟨hr, -⟩ | ⟨hr, ⟨w, n, he, hn⟩, -⟩ | ⟨hr, w, n, st', he, hs, hstep⟩ |
    ⟨hr, he, st', hs, hstep⟩ | ⟨hr, he, hs, -⟩
  · simp [hr] at h
  · rcases n with _ | n
    · simp [hr, he] at h
    · rcases hn with hn | hn
      · cases hn
      · simp [hr, he, hn] at h
  · simp only [hr, he, hs, Bool.false_eq_true, if_false] at h
    cases h
    exact ⟨hs, _, hstep⟩
  · simp only [hr, he, hs, Bool.false_eq_true, if_false] at h
    cases h
    exact ⟨hs, s.engine, hstep⟩
  · simp [hr, he, hs] at h

end Sys2Proof.Machine
end

