-- ==== Sys2Proof/Tests/Slice0.lean ====
section
/-! SUPPORT. The model's own tests. Expected values come from 95_test_vectors.md (the vector's name stands
beside each) or from the encodings of 30_encoding.md R57 and R60. The last part holds, for each
statement with hypotheses, a concrete case that meets them. -/

namespace Sys2Proof.Tests

open Sys2Proof.Machine Sys2Proof.Claims

/-- A register after a step that answers a next state. -/
def readAfter (r : Result) (q : Reg) : Option Word :=
  match r with
  | .next s => some (s.read q)
  | .fault _ => none
  | .refused _ => none

/-- The fault a step stops with. -/
def faultOf (r : Result) : Option Fault :=
  match r with
  | .fault f => some f
  | .next _ => none
  | .refused _ => none

/-- "Seed 00..1F" of 95_test_vectors.md. -/
def countingSeed : SeedBuffer := Vector.ofFn fun i => BitVec.ofNat 8 i.val

/-- STATUS = 02, as the vectors start from. -/
def start : State := { State.reset with status := 0x02#8 }

/-- `start` with OPA and OPB. -/
def withOps (a b : Word) : State := { start with opa := a, opb := b }

/-- `start` with a seed buffer. -/
def withSeed (buf : SeedBuffer) : State := { start with seed := buf }

/-- `start` with the UID 04 11 22 33 44 55 66. -/
def withUid : State := { start with uid0 := 0x33221104#32, uid1 := 0x665544#24 }

/-! ## Well-formedness: each check refuses an ill-formed term -/

theorem test_wf_packle_32_refused : (Instr.packle 32).wellFormed = false := by decide
theorem test_wf_unpackle_32_refused : (Instr.unpackle 32).wellFormed = false := by decide
theorem test_wf_seedKey_32_refused : (Instr.seedKey 32).wellFormed = false := by decide
theorem test_wf_mix_32_refused : (Instr.mix 32).wellFormed = false := by decide
theorem test_wf_scramble_32_refused : (Instr.scramble 32).wellFormed = false := by decide
theorem test_wf_command_statement_refused : (HostStmt.command (.mix 32)).wellFormed = false := by decide
theorem test_range_edges :
    (Instr.packle 28).argInRange = true ∧ (Instr.packle 29).argInRange = false ∧
    (Instr.mix 8).argInRange = true ∧ (Instr.mix 9).argInRange = false ∧
    (Instr.scramble 6).argInRange = true ∧ (Instr.scramble 7).argInRange = false := by decide

/-! ## Decoding: words written out bit by bit from R57 and R60 (19 zeros, IMM5, OP) -/

theorem test_decode_nop : decode 0b00000000000000000000000000000000#32 = .instr .nop := by decide
theorem test_decode_rotr : decode 0b00000000000000000000000000000001#32 = .instr .rotr := by decide
theorem test_decode_packle : decode 0b00000000000000000001110000000010#32 = .instr (.packle 28) := by decide
theorem test_decode_unpackle : decode 0b00000000000000000000000100000011#32 = .instr (.unpackle 1) := by
  decide
theorem test_decode_revb : decode 0b00000000000000000000000000000100#32 = .instr .revb := by decide
theorem test_decode_seedPwd : decode 0b00000000000000000000000000010000#32 = .instr .seedPwd := by decide
theorem test_decode_seedKey : decode 0b00000000000000000000001000010001#32 = .instr (.seedKey 2) := by decide
theorem test_decode_mix : decode 0b00000000000000000000100000100000#32 = .instr (.mix 8) := by decide
theorem test_decode_scramble : decode 0b00000000000000000000011000100001#32 = .instr (.scramble 6) := by
  decide
theorem test_decode_derivePwd : decode 0b00000000000000000000000000100010#32 = .instr .derivePwd := by decide
theorem test_decode_deriveKey : decode 0b00000000000000000000000000100011#32 = .instr .deriveKey := by decide
theorem test_decode_teaEnc : decode 0b00000000000000000000000000110000#32 = .instr .teaEnc := by decide
theorem test_decode_teaDec : decode 0b00000000000000000000000000110001#32 = .instr .teaDec := by decide

/-- V-DEC-2, V-DEC-3, V-DEC-6, V-DEC-18. -/
theorem test_decode_rejects :
    decode 0x00000100#32 = .reject .immediateNotZero ∧ decode 0x00000005#32 = .reject .undefinedOpcode ∧
    decode 0x80000020#32 = .reject .reservedBits ∧ decode 0x00002921#32 = .reject .reservedBits := by decide

/-- The bytes of a word lie little-endian, R43. -/
theorem test_decodeBytes_order :
    decodeBytes [0x20#8, 0x08#8, 0x00#8, 0x00#8] = .instr (.mix 8) ∧
    decodeBytes [0x20#8, 0x08#8, 0x00#8] = .reject .truncated := by decide

theorem test_decodeTableWord : decodeTableWord 32 0x1C03 = some (.unpackle 28) := by decide

/-! ## The commands, on single complete steps -/

/-- V-DEC-1. -/
theorem test_nop_status : readAfter (exec .nop start) .status = some 0x02#32 := by decide

/-- V-ROTR-9, V-ROTR-3. -/
theorem test_rotr_25 : readAfter (exec .rotr (withOps 0xDEADBEEF#32 0x19#32)) .result = some 0x56DF77EF#32 := by
  decide
theorem test_rotr_opb_high_ignored :
    readAfter (exec .rotr (withOps 0x12345678#32 0x120#32)) .result = some 0x12345678#32 := by decide

/-- V-PK-3, V-PK-5. -/
theorem test_packle_5 : readAfter (exec (.packle 5) (withSeed countingSeed)) .result = some 0x08070605#32 := by
  decide
theorem test_packle_29 : readAfter (exec (.packle 29) (withSeed countingSeed)) .status = some 0x1E#32 := by
  decide

/-- V-UP-1, V-UP-2. -/
theorem test_unpackle_2 :
    readAfter (exec (.unpackle 2) (withOps 0xDDCCBBAA#32 0#32)) (.seed 1) = some 0x0000DDCC#32 := by
  decide +kernel
theorem test_unpackle_28 :
    readAfter (exec (.unpackle 28) { withSeed countingSeed with opa := 0xCAFEBABE#32 }) (.seed 6) =
      some 0x1B1A1918#32 := by decide +kernel

/-- V-REVB-4. -/
theorem test_revb : readAfter (exec .revb (withOps 0xDEADBEEF#32 0#32)) .result = some 0xEFBEADDE#32 := by
  decide

/-- V-MIX-17, V-MIX-20. -/
theorem test_mix_8 : readAfter (exec (.mix 8) (withSeed countingSeed)) .result = some 0x08EA2BB1#32 := by
  decide +kernel
theorem test_mix_9 : readAfter (exec (.mix 9) (withSeed countingSeed)) .status = some 0x1E#32 := by decide

/-- V-DER-11, V-DER-1, V-DER-2. -/
theorem test_seedPwd : readAfter (exec .seedPwd withUid) (.seed 0) = some 0x33221104#32 := by decide +kernel
theorem test_seedKey_2 : readAfter (exec (.seedKey 2) withUid) (.seed 1) = some 0xAA665544#32 := by
  decide +kernel
theorem test_seedKey_1 : readAfter (exec (.seedKey 1) withUid) (.seed 0) = some 0xAA221104#32 := by
  decide +kernel

/-- V-DER-5, V-DER-10. -/
theorem test_scramble_2 : readAfter (exec (.scramble 2) withUid) .result = some 0x49598EDD#32 := by
  decide +kernel
theorem test_scramble_7 : readAfter (exec (.scramble 7) withUid) .status = some 0x1E#32 := by decide

/-- V-CP-4 and V-CP-1, with the candidate pads of 93_implementation_defined.md I1 and I2 as arguments. -/
theorem test_derivePwd_candidate :
    mix (Machine.seedPwd candidatePwdPad (uidBytes 0xC3B2A104#32 0x80E5D4#24) countingSeed) 8 =
      0xA3E888E2#32 := by decide +kernel
theorem test_deriveKey_candidate :
    revb (mix (Machine.seedKey candidateKeyPad exampleUid 3 countingSeed) 3) = 0x064EAA38#32 := by
  decide +kernel

/-- V-TEA-2 both ways. -/
theorem test_teaEnc :
    readAfter (exec .teaEnc { start with
      key := #v[0x00010203#32, 0x04050607#32, 0x08090A0B#32, 0x0C0D0E0F#32],
      v0 := 0x01234567#32, v1 := 0x89ABCDEF#32 }) .v1 = some 0x2BEBD98D#32 := by decide +kernel
theorem test_teaDec :
    readAfter (exec .teaDec { start with
      key := #v[0x00010203#32, 0x04050607#32, 0x08090A0B#32, 0x0C0D0E0F#32],
      v0 := 0x01234567#32, v1 := 0x89ABCDEF#32 }) .v0 = some 0xF6A41DE7#32 := by decide +kernel

/-! ## STATUS, the window, the host -/

/-- V-DEC-20: an illegal command, then a successful one, leaves STICKY_ERR. -/
theorem test_sticky_stays :
    readAfter (exec .teaEnc (State.reset.raise .illegalCommand)) .status = some 0x0A#32 := by decide

/-- V-ST-1, V-ST-3. -/
theorem test_status_write :
    statusWrite 0x1E#8 0x8#32 = 0x16#8 ∧ statusWrite 0x1E#8 0xF7#32 = 0x1E#8 := by decide

/-- V-BUS-4, V-BUS-5, V-BUS-6. -/
theorem test_reserved_reads_zero : (hostRead 0x38 start).1 = 0#32 := by decide
theorem test_pwd_write_ignored : readAfter (hostWrite 0x1C 0xFFFFFFFF#32 start) .pwd = some 0#32 := by decide
theorem test_uid1_top_byte : readAfter (hostWrite 0x0C 0xFFFFFFFF#32 start) .uid1 = some 0x00FFFFFF#32 := by
  decide

/-- V-BUS-7, V-BUS-9. -/
theorem test_busy_write_hazard :
    faultOf (hostWrite 0x30 0#32 (State.reset.withCommand 0#32)) = some .hostHazard := by decide
theorem test_busy_status_write :
    readAfter (hostWrite 0x04 0x8#32 { State.reset with status := 0x09#8 }) .status = some 0x01#32 := by decide

/-- V-BUS-1, an 8-bit read: BUS_REJECT. -/
theorem test_byte_read_rejected : faultOf (runStmt (.busRead (Config.base + 0x10) 1 9) start) = some .busReject := by
  simp [runStmt, acceptedOffset, faultOf]

/-- The register map of R19, at its edges. -/
theorem test_register_map :
    regAt 0x00 = some .cmd ∧ regAt 0x2C = some (.key 3) ∧ regAt 0x3C = none ∧ regAt 0x40 = some (.seed 0) ∧
    regAt 0x5C = some (.seed 7) ∧ regAt 0x60 = none := by decide

/-- P5: ENCREC and DECREC are 40 transactions each with LATENCY = 0, `wait` being one read. -/
theorem test_macro_transactions :
    (encrecStmts (.const 1#32) 4 5).countP (fun st => (transactionOf [] st).isSome) = 40 ∧
    (decrecStmts (.var 4) (.var 5) 6 7).countP (fun st => (transactionOf [] st).isSome) = 40 := by decide

/-- The encoding of program P1: 15 transactions with LATENCY = 0, `wait` being one read. -/
theorem test_encoding_P1 :
    programTransactions [] (List.flatten [[.wr .opa (.const 0xDEADBEEF#32), .wr .opb (.const 25#32),
      .command .rotr], waitStmts, [.rd .result 4, .wr .opb (.const 0x120#32), .command .rotr], waitStmts,
      [.command .revb], waitStmts, [.command (.mix 9)], waitStmts, [.command .nop], waitStmts,
      [.wr .status (.const 8#32)]]) =
      [.write 0x14 0xDEADBEEF#32, .write 0x18 0x19#32, .write 0x00 0x1#32, .read 0x04, .read 0x10,
        .write 0x18 0x120#32, .write 0x00 0x1#32, .read 0x04, .write 0x00 0x4#32, .read 0x04,
        .write 0x00 0x920#32, .read 0x04, .write 0x00 0x0#32, .read 0x04, .write 0x04 0x8#32] := by decide

/-- A loop's transactions are those of each turn, with the values at that turn (the shape of P2's loop). -/
theorem test_run_transactions_loop :
    transactionsOfRun 6 { State.reset with hostProg :=
      [.wr .opa (.var 4), .assign 4 (.add (.var 4) (.const 1#32)), .branch (.ne (.var 4) (.const 2#32)) (-2)] } =
      [.write 0x14 0#32, .write 0x14 1#32] := by decide

/-- `R 04*`: a `wait` on a command with two statements of latency left reads STATUS twice. -/
theorem test_run_transactions_wait :
    transactionsOfRun 5 { State.reset.withCommand 0#32 with engine := .busy 0#32 2, hostProg := waitStmts } =
      [.read 0x04, .read 0x04] := by decide

/-- The kernel evaluates a step on a fetched word from reset, with the open pads. -/
theorem test_step_derivePwd_from_reset :
    readAfter (step (State.reset.withFetchWord 32 0x22)) .status = some 0x02#32 := by decide

/-! ## A case that meets the hypotheses of each statement that has some -/

/-- The engine about to complete `w`, from reset. -/
def readyFor (w : Nat) : State := State.reset.withFetchWord 32 w

theorem witness_EncodeThenDecode : (Instr.mix 31).wellFormed = true := by decide

theorem witness_DecodeThenEncode : decode 0x00001F03#32 = .instr (.unpackle 31) := by decide

/-- The helper gives a ready engine for every word. -/
theorem ready_readyFor (w : Word) : Ready (readyFor w.toNat) w := by
  have h : BitVec.ofNat 32 (w.toNat % 2 ^ 32) = w := by
    rw [Nat.mod_eq_of_lt w.isLt]; simp
  exact ⟨rfl, h, congrArg (Engine.busy · 0) h⟩

/-- The edges of R62's opcode ranges, a reserved bit, and an immediate on NOP. -/
theorem witness_IllegalWords :
    ∀ w ∈ [0x05#32, 0x0F#32, 0x12#32, 0x1F#32, 0x24#32, 0x2F#32, 0x32#32, 0xFF#32, 0x2020#32, 0x80000020#32,
      0x100#32], IllegalWord w ∧ Ready (readyFor w.toNat) w := by
  have h : ∀ w ∈ [0x05#32, 0x0F#32, 0x12#32, 0x1F#32, 0x24#32, 0x2F#32, 0x32#32, 0xFF#32, 0x2020#32,
      0x80000020#32, 0x100#32], IllegalWord w := by
    simp only [List.forall_mem_cons, List.not_mem_nil, false_implies, implies_true, and_true]
    (repeat' apply And.intro) <;> decide
  exact fun w hw => ⟨h w hw, ready_readyFor w⟩

/-- One illegal word, and the edges of the argument ranges (R100) from both sides. -/
theorem witness_EveryWordCompletes :
    (IllegalWord 0x2920#32 ∧ Ready (readyFor 0x2920) 0x2920#32) ∧
    (∀ w ∈ [0x920#32, 0x1D02#32, 0x1D03#32, 0x711#32, 0x721#32, 0x1F20#32],
      ¬IllegalWord w ∧ BadArgument w ∧ Ready (readyFor w.toNat) w) ∧
    (∀ w ∈ [0x820#32, 0x1C02#32, 0x1C03#32, 0x611#32, 0x621#32, 0x0#32],
      ¬IllegalWord w ∧ ¬BadArgument w ∧ Ready (readyFor w.toNat) w) := by
  have bad : ∀ w ∈ [0x920#32, 0x1D02#32, 0x1D03#32, 0x711#32, 0x721#32, 0x1F20#32],
      ¬IllegalWord w ∧ BadArgument w := by
    simp only [List.forall_mem_cons, List.not_mem_nil, false_implies, implies_true, and_true]
    (repeat' apply And.intro) <;> decide
  have good : ∀ w ∈ [0x820#32, 0x1C02#32, 0x1C03#32, 0x611#32, 0x621#32, 0x0#32],
      ¬IllegalWord w ∧ ¬BadArgument w := by
    simp only [List.forall_mem_cons, List.not_mem_nil, false_implies, implies_true, and_true]
    (repeat' apply And.intro) <;> decide
  exact ⟨⟨by decide, ready_readyFor 0x2920#32⟩,
    fun w hw => ⟨(bad w hw).1, (bad w hw).2, ready_readyFor w⟩,
    fun w hw => ⟨(good w hw).1, (good w hw).2, ready_readyFor w⟩⟩

/-- For the error clauses of the eight commands without an immediate: IMM5 = 1, and RSV bit 13. -/
theorem witness_plain_commands :
    ∀ op ∈ [0x00#8, 0x01#8, 0x04#8, 0x10#8, 0x22#8, 0x23#8, 0x30#8, 0x31#8],
      ∀ w ∈ [0#19 ++ 1#5 ++ op, 1#19 ++ 0#5 ++ op],
        Ready (readyFor w.toNat) w ∧ w.extractLsb' 0 8 = op ∧
        (w.extractLsb' 8 5 ≠ 0#5 ∨ w.extractLsb' 13 19 ≠ 0#19) := by
  have h : ∀ op ∈ [0x00#8, 0x01#8, 0x04#8, 0x10#8, 0x22#8, 0x23#8, 0x30#8, 0x31#8],
      ∀ w ∈ [0#19 ++ 1#5 ++ op, 1#19 ++ 0#5 ++ op], w.extractLsb' 0 8 = op ∧
        (w.extractLsb' 8 5 ≠ 0#5 ∨ w.extractLsb' 13 19 ≠ 0#19) := by
    simp only [List.forall_mem_cons, List.not_mem_nil, false_implies, implies_true, and_true]
    (repeat' apply And.intro) <;> decide
  exact fun op hop w hw => ⟨ready_readyFor w, h op hop w hw⟩

/-- For the error clauses of the five commands with an immediate: RSV bit 13. -/
theorem witness_immediate_commands :
    ∀ op ∈ [0x02#8, 0x03#8, 0x11#8, 0x20#8, 0x21#8],
      Ready (readyFor (1#19 ++ 0#5 ++ op).toNat) (1#19 ++ 0#5 ++ op) ∧
      (1#19 ++ 0#5 ++ op).extractLsb' 0 8 = op ∧ (1#19 ++ 0#5 ++ op).extractLsb' 13 19 ≠ 0#19 := by
  have h : ∀ op ∈ [0x02#8, 0x03#8, 0x11#8, 0x20#8, 0x21#8],
      (1#19 ++ 0#5 ++ op).extractLsb' 0 8 = op ∧ (1#19 ++ 0#5 ++ op).extractLsb' 13 19 ≠ 0#19 := by
    simp only [List.forall_mem_cons, List.not_mem_nil, false_implies, implies_true, and_true]
    (repeat' apply And.intro) <;> decide
  exact fun op hop => ⟨ready_readyFor _, h op hop⟩

/-- For the conditional clauses of ROTR: OPB 0x60 and 0xFF, the fixed points, the example. -/
theorem witness_RotrRotatesOpaByOpb :
    ((withOps 1#32 0x60#32).read .opb).toNat % 256 % 32 = 0 ∧
    ((withOps 1#32 0xFF#32).read .opb).toNat % 256 = 255 ∧
    (withOps 1#32 0x120#32).read .opb = 0x120#32 ∧ (withOps 0xFFFFFFFF#32 3#32).read .opa = 0xFFFFFFFF#32 ∧
    (withOps 0x12345678#32 4#32).read .opa = 0x12345678#32 ∧ (withOps 0x12345678#32 4#32).read .opb = 4#32 := by
  decide

/-- For PACKLE: an aligned offset, and the example's seed words. -/
theorem witness_PacklePacksFourSeedBytes :
    (28 : Nat) = 4 * (7 : Fin 8).val ∧
    (withSeed (Vector.ofFn fun i => BitVec.ofNat 8 (i.val + 1))).read (.seed 0) = 0x04030201#32 ∧
    (withSeed (Vector.ofFn fun i => BitVec.ofNat 8 (i.val + 1))).read (.seed 1) = 0x08070605#32 := by
  decide +kernel

/-- For UNPACKLE's example. -/
theorem witness_UnpackleWritesFourSeedBytes :
    (withOps 0xDDCCBBAA#32 0#32).seed = Vector.replicate 32 0#8 ∧
    (withOps 0xDDCCBBAA#32 0#32).read .opa = 0xDDCCBBAA#32 := by decide

/-- For REVB: a palindrome, and the word reversed twice. -/
theorem witness_RevbReversesOpa :
    (0xAB1111AB#32).extractLsb' 0 8 = (0xAB1111AB#32).extractLsb' 24 8 ∧
    (0xAB1111AB#32).extractLsb' 8 8 = (0xAB1111AB#32).extractLsb' 16 8 ∧
    readAfter (exec .revb (withOps 0x12345678#32 0#32)) .result =
      some ((withOps 0x78563412#32 0#32).read .opa) := by decide

/-- For MIX: the zero buffer, the all-ones words, and the counting seed. -/
theorem witness_MixFoldsTheSeedWords :
    start.seed = Vector.replicate 32 0#8 ∧
    (withSeed (Vector.replicate 32 0xFF#8)).read (.seed 1) = 0xFFFFFFFF#32 ∧
    (withSeed countingSeed).read (.seed 0) = 0x03020100#32 ∧
    (withSeed countingSeed).read (.seed 1) = 0x07060504#32 := by decide +kernel

/-- For MixerFollowsItsRecurrence and MixerPrefixProperty: another buffer that agrees below 4n. -/
theorem witness_MixerPrefix :
    (∀ j : Fin 28, seedByte (overwrite countingSeed 28 #v[0xBE#8]) j.val = seedByte countingSeed j.val) ∧
    overwrite countingSeed 28 #v[0xBE#8] ≠ countingSeed := by decide +kernel

/-- For the UID examples of SEED_PWD, SEED_KEY and SCRAMBLE. -/
theorem witness_example_uid : withUid.uid = exampleUid := by decide

/-- For the pad clauses of SCRAMBLE and DERIVE_PWD: pads that differ where the rules say it cannot matter. -/
theorem witness_pads :
    (∀ i : Fin 24, 7 ≤ i.val → i.val ≤ 4 * 3 - 2 → candidateKeyPad[i] = (candidateKeyPad.set 11 0#8)[i]) ∧
    candidateKeyPad ≠ candidateKeyPad.set 11 0#8 ∧
    (∀ i : Fin 32, 7 ≤ i.val → i.val ≤ 29 → candidatePwdPad[i] = (candidatePwdPad.set 30 0#8)[i]) ∧
    candidatePwdPad ≠ candidatePwdPad.set 30 0#8 := by decide +kernel

/-- For the TEA examples. -/
theorem witness_tea_examples :
    (∀ j, start.read (.key j) = 0#32) ∧ start.read .v0 = 0#32 ∧ start.read .v1 = 0#32 ∧
    (∀ j, ({ start with v0 := 0x41EA3A0A#32, v1 := 0x94BAA940#32 } : State).read (.key j) = 0#32) := by decide

/-- For CommandsWriteOnlyTheirDestinations: each kind of destination does change somewhere. -/
theorem witness_CommandsWriteOnlyTheirDestinations :
    readAfter (exec .teaEnc start) .v0 ≠ some (start.read .v0) ∧
    readAfter (exec .rotr (withOps 1#32 0#32)) .result ≠ some ((withOps 1#32 0#32).read .result) ∧
    readAfter (exec .seedPwd withUid) (.seed 0) ≠ some (withUid.read (.seed 0)) := by decide +kernel

/-- Two states with one UID and different seed buffers. -/
theorem witness_DerivedValuesDependOnTheUidAlone :
    ({ withUid with seed := countingSeed } : State).read .uid0 = withUid.read .uid0 ∧
    ({ withUid with seed := countingSeed } : State).read .uid1 = withUid.read .uid1 ∧
    ({ withUid with seed := countingSeed } : State).seed ≠ withUid.seed := by decide

/-- Not busy, and busy: for the statements about host accesses in either condition. -/
theorem witness_host_access_statements :
    statusBusy start.status = false ∧ varsWf start.hostVars = true ∧
    statusBusy (State.reset.accept 0x30#32).status = true ∧ (0x38 : Nat) ∈ reservedOffsets ∧
    (0x7C : Nat) ∈ reservedOffsets ∧ Reg.result ∉ [Reg.cmd, .status, .uid1, .pwd] ∧
    Reg.key 3 ∉ [Reg.cmd, .status, .uid1, .pwd] := by decide

/-- For StickyErrStaysUntilClearedOrReset: an erring command's STATUS; a sticky bit cleared by a host
write, and by a reset. -/
theorem witness_StickyErrStays :
    (statusBusy 0x1E#8 = false ∧ statusErr 0x1E#8 = true) ∧
    (Ready (readyFor 0x820) (encode (.mix 8)) ∧ (Instr.mix 8).argInRange = true) ∧
    (∃ t, step { State.reset with status := 0x0A#8, hostProg := [.wr .status (.const 8#32)] } = .next t ∧
      statusSticky t.status = false) ∧
    (∃ t, step { State.reset with status := 0x0A#8, resetIn := true } = .next t ∧
      statusSticky t.status = false) := ⟨by decide, by decide, ⟨_, rfl, by decide⟩, ⟨_, rfl, by decide⟩⟩

/-- For ErrImpliesStickyUnlessCleared: a step from a state with ERR and STICKY_ERR, the host at a read. -/
theorem witness_ErrImpliesSticky :
    ∃ t, step { State.reset with status := 0x1E#8, hostProg := [.rd .opa 9] } = .next t ∧
      statusErr t.status = true ∧
      ¬HostClearsSticky { State.reset with status := 0x1E#8, hostProg := [.rd .opa 9] } := by
  refine ⟨_, rfl, by decide, ?_⟩
  rintro ⟨st, v, h, hw, -⟩
  cases h
  cases hw

/-- For EveryStepKeepsTheStateLegal: a legal busy state and its step. -/
theorem witness_EveryStepKeepsTheStateLegal :
    (readyFor 0x920).Legal ∧ ∃ t, step (readyFor 0x920) = .next t := ⟨by decide, ⟨_, rfl⟩⟩

/-- For EngineUpdatesOfStatus: an argument in range, one out of range, a rejected word. -/
theorem witness_EngineUpdatesOfStatus :
    (Instr.seedKey 6).argInRange = true ∧ (Instr.seedKey 7).argInRange = false ∧
    Ready (readyFor 0x5) (readyFor 0x5).cmd ∧ decode (readyFor 0x5).cmd = .reject .undefinedOpcode := by decide

/-- For OnlyAlignedWordAccessesAreAccepted: a byte access, and the last word of the window. -/
theorem witness_OnlyAlignedWordAccesses :
    ¬((1 : Nat) = 4 ∧ ∃ k, k < 32 ∧ Config.base = Config.base + 4 * k) ∧
    (∃ k, k < 32 ∧ Config.base + 124 = Config.base + 4 * k) := by
  refine ⟨by simp, 31, by decide, rfl⟩

theorem witness_ResetDiscards :
    ({ readyFor 0x22 with resetIn := true } : State).resetIn = true ∧
    ({ readyFor 0x22 with resetIn := true } : State).engine = .busy 0x22#32 0 := by decide

/-- Latency run out, and latency left with no host statement. -/
theorem witness_StepRunsTheDecodedCommand :
    Ready (readyFor 0x30) 0x30#32 ∧ decode 0x30#32 = .instr .teaEnc ∧
    ({ readyFor 0x30 with engine := .busy 0x30#32 7 } : State).hostStmt? = none := by decide

/-- For StepPerformsTheHostStatement: the host at a statement with the engine idle, and busy. -/
theorem witness_StepPerformsTheHostStatement :
    ({ start with hostProg := [.rd .status 0] } : State).hostStmt? = some (.rd .status 0) ∧
    ({ start with hostProg := [.rd .status 0] } : State).engine = .idle ∧
    ({ start with hostProg := [.rd .status 0], engine := .busy 0#32 3 } : State).engine = .busy 0#32 3 := by
  decide

/-- For HostStatementsPerformTheirTransactions: a write, a read, and a statement without one. -/
theorem witness_HostStatementsPerform :
    transactionOf [] (.wr .opa (.const 5#32)) = some (.write 0x14 5#32) ∧
    transactionOf [] (.rd .v1 2) = some (.read 0x34) ∧ transactionOf [] (.assign 2 (.const 1#32)) = none := by
  decide

/-- For ReadsWhileBusy and WritesWhileBusy: statements of each kind in a busy state, the reads of V0 with
an open value. -/
theorem witness_statements_while_busy :
    statusBusy (readyFor 0x30).status = true ∧ varsWf (readyFor 0x30).hostVars = true ∧ Reg.v0 ≠ .status ∧
    faultOf (runStmt (.wr .v0 (.const 0#32)) (readyFor 0x30)) = some .hostHazard ∧
    readAfter (runStmt (.wr .status (.const 8#32)) (readyFor 0x30)) .cmd = some 0x30#32 ∧
    ¬(Reg.v0 = .cmd ∨ Reg.v0 = .status) := by decide

/-- For RunTransactionsFollowTheProgram: a step with a host statement, one without, and a straight program
that runs to its end. -/
theorem witness_RunTransactions :
    ({ start with hostProg := [.wr .v0 (.const 5#32)] } : State).nextStmt? = some (.wr .v0 (.const 5#32)) ∧
    (readyFor 0x30).nextStmt? = none ∧
    (∀ st ∈ ({ start with hostProg := [.wr .v0 (.const 5#32)] } : State).hostProg,
      (∀ c d, st ≠ .branch c d) ∧ ∀ vars, transactionOf vars st = transactionOf [] st) ∧
    ∃ t, Sys2Proof.core.run 1 { start with hostProg := [.wr .v0 (.const 5#32)] } = .next t ∧ t.hostPos = 1 := by
  refine ⟨by decide, by decide, ?_, _, rfl, rfl⟩
  intro st h
  rw [List.mem_singleton.mp h]
  exact ⟨fun c d => by simp, fun _ => rfl⟩

/-- For PendingCommandAlwaysCompletes and WaitEndsWithTheCommandDone: a legal busy state with latency 5
left and its host at a `wait`. -/
theorem witness_WaitEnds :
    ({ readyFor 0x22 with engine := .busy 0x22#32 5, hostProg := waitStmts } : State).Legal ∧
    ({ readyFor 0x22 with engine := .busy 0x22#32 5, hostProg := waitStmts } : State).resetIn = false ∧
    waitStmts[0]? = some (.rd .status varS) ∧
    waitStmts[1]? = some (.branch (.bitSet (.var varS) 0) (-1)) := by decide

theorem witness_EndedRun :
    start.resetIn = false ∧ start.engine = .idle ∧ start.hostProg.length ≤ start.hostPos := by decide

theorem witness_SetuidPlacesTheUid :
    ({ start with hostProg := setuidStmts exampleUid } : State).hostProg[0]? = (setuidStmts exampleUid)[0]? ∧
    ({ start with hostProg := setuidStmts exampleUid } : State).hostProg[1]? = (setuidStmts exampleUid)[1]? ∧
    start.engine = .idle ∧ statusBusy start.status = false := by decide

end Sys2Proof.Tests
end

section
/-! The two agents' turns as equations (R17, R51): what `step` is when the host moves. -/

namespace Sys2Proof.Machine

/-- The engine has no part in which statement the host is at. -/
@[simp] theorem State.hostStmt?_setEngine (s : State) (e : Engine) :
    (s.setEngine e).hostStmt? = s.hostStmt? := rfl

theorem hostStep_of_hostStmt {s : State} {st : HostStmt} (hs : s.hostStmt? = some st) :
    hostStep s = runStmt st s := by
  simp only [hostStep, hs]

theorem step_of_no_reset {s : State} (hr : s.resetIn = false) : step s = agentStep s := by
  simp [step, hr]

theorem agentStep_of_idle {s : State} (he : s.engine = .idle) : agentStep s = hostStep s := by
  simp only [agentStep, he]

/-- A busy engine with latency left lets the host move, and counts that move (log entry 1). -/
theorem agentStep_of_latency_left {s : State} {w : Word} {n : Nat} {st : HostStmt}
    (he : s.engine = .busy w (n + 1)) (hs : s.hostStmt? = some st) :
    agentStep s = hostStep (s.setEngine (.busy w n)) := by
  simp only [agentStep, he, hs]

end Sys2Proof.Machine

open Sys2Proof Sys2Proof.Machine

/-- Settles O52: in both cases it is the host's turn, and counting the latency down leaves the host at
the same statement. -/
theorem stepPerformsTheHostStatement : Obligations.StepPerformsTheHostStatement := by
  intro s st hr hs
  refine ⟨fun he => ?idle, fun w n he => ?busy⟩
  case idle =>
    rw [step_of_no_reset hr, agentStep_of_idle he, hostStep_of_hostStmt hs]
  case busy =>
    have hs' : (s.setEngine (.busy w n)).hostStmt? = some st := by rw [State.hostStmt?_setEngine, hs]
    rw [step_of_no_reset hr, agentStep_of_latency_left he hs, hostStep_of_hostStmt hs']

end

section
/-! What one host statement can do to STATUS, the engine, CMD and the host's variables, said once (R20, R21,
R48, R65). -/

namespace Sys2Proof.Machine

/-- `t` has the CMD, STATUS and engine of `s`: what decides how the block goes on. -/
structure State.SameControl (s t : State) : Prop where
  cmd : t.cmd = s.cmd
  status : t.status = s.status
  engine : t.engine = s.engine

/-- The only registers whose write does more than store a value are CMD and STATUS. -/
theorem write_sameControl {r : Reg} (s : State) (v : Word) (hc : r ≠ .cmd) (hs : r ≠ .status) :
    s.SameControl (s.write r v) := by
  cases r with
  | cmd => exact absurd rfl hc
  | status => exact absurd rfl hs
  | _ => constructor <;> simp [State.write]

@[simp] theorem write_hostVars (s : State) (r : Reg) (v : Word) : (s.write r v).hostVars = s.hostVars := by
  cases r <;> simp [State.write]

theorem writeOffset_hostVars (s : State) (off : Nat) (v : Word) :
    (s.writeOffset off v).hostVars = s.hostVars := by
  unfold State.writeOffset
  split
  · exact write_hostVars ..
  · rfl

/-- A write at an offset accepts a command, writes STATUS, or leaves the control of the block alone. -/
theorem writeOffset_cases (s : State) (off : Nat) (v : Word) :
    (off = 0x00 ∧ s.writeOffset off v = s.accept v) ∨
    (off = 0x04 ∧ s.writeOffset off v = s.setStatus (statusWrite s.status v)) ∨
    (off ≠ 0x00 ∧ off ≠ 0x04 ∧ s.SameControl (s.writeOffset off v)) := by
  by_cases h0 : off = 0x00
  · subst h0
    exact .inl ⟨rfl, writeOffset_regOffset s .cmd v⟩
  by_cases h4 : off = 0x04
  · subst h4
    exact .inr (.inl ⟨rfl, writeOffset_regOffset s .status v⟩)
  refine .inr (.inr ⟨h0, h4, ?_⟩)
  unfold State.writeOffset
  split
  next r hr =>
    have hoff := regOffset_of_regAt hr
    exact write_sameControl s v (by rintro rfl; exact h0 hoff.symm) (by rintro rfl; exact h4 hoff.symm)
  next => exact ⟨rfl, rfl, rfl⟩

/-- A host read changes at most the draw counter (R48). -/
theorem hostRead_snd (off : Nat) (s : State) : (hostRead off s).2 = s ∨ (hostRead off s).2 = s.draw := by
  unfold hostRead
  split
  · exact .inr rfl
  · exact .inl rfl

/-- A host statement that reads: the control of the block stays, one variable is set. -/
theorem doRead_next {off x : Nat} {s t : State} (h : doRead off x s = .next t) :
    s.SameControl t ∧ ∃ v, t.hostVars = varSet s.hostVars x v := by
  cases h
  rcases hostRead_snd off s with hr | hr <;> rw [hr] <;> exact ⟨⟨rfl, rfl, rfl⟩, _, rfl⟩

/-- A host statement that writes and does not stop: the write, then the next statement (R124). -/
theorem doWrite_next {off : Nat} {v : Word} {s t : State} (h : doWrite off v s = .next t) :
    t = (s.writeOffset off v).hostNext ∧ (statusBusy s.status = true → off = 0x04) := by
  unfold doWrite at h
  cases hw : hostWrite off v s with
  | next u =>
    obtain ⟨hu, hbusy⟩ := hostWrite_next hw
    rw [hw, mapNext_next, Host.Outcome.next.injEq] at h
    exact ⟨by rw [← h, hu], hbusy⟩
  | fault r => rw [hw] at h; cases h
  | refused r => rw [hw] at h; cases h

/-- A host statement that does not stop performs its write transaction, or leaves the control of the block
alone and sets at most one host variable (R65, R66). -/
theorem runStmt_next {st : HostStmt} {s t : State} (h : runStmt st s = .next t) :
    (∃ off v, transactionOf s.hostVars st = some (.write off v) ∧ t = (s.writeOffset off v).hostNext ∧
      (statusBusy s.status = true → off = 0x04)) ∨
    (s.SameControl t ∧ (t.hostVars = s.hostVars ∨ ∃ x v, t.hostVars = varSet s.hostVars x v)) := by
  cases st with
  | wr r e => exact .inl ⟨_, _, rfl, doWrite_next h⟩
  | command i => exact .inl ⟨_, _, rfl, doWrite_next h⟩
  | rd r x =>
    obtain ⟨hctl, hvar⟩ := doRead_next h
    exact .inr ⟨hctl, .inr ⟨x, hvar⟩⟩
  | busWrite addr bytes e =>
    cases ha : acceptedOffset addr bytes with
    | some off =>
      simp only [runStmt, ha] at h
      exact .inl ⟨off, _, by simp only [transactionOf, ha, Option.map_some], doWrite_next h⟩
    | none => simp only [runStmt, ha] at h; cases h
  | busRead addr bytes x =>
    cases ha : acceptedOffset addr bytes with
    | some off =>
      simp only [runStmt, ha] at h
      obtain ⟨hctl, hvar⟩ := doRead_next h
      exact .inr ⟨hctl, .inr ⟨x, hvar⟩⟩
    | none => simp only [runStmt, ha] at h; cases h
  | assign x e =>
    cases h
    exact .inr ⟨⟨rfl, rfl, rfl⟩, .inr ⟨x, _, rfl⟩⟩
  | branch c d =>
    cases h
    refine .inr ?_
    split <;> exact ⟨⟨rfl, rfl, rfl⟩, .inl rfl⟩

end Sys2Proof.Machine
end

section
/-! The legal states are closed under what a step can do (R22). -/

namespace Sys2Proof.Machine

theorem State.Legal.of_sameControl {s t : State} (h : s.Legal) (hctl : s.SameControl t)
    (hv : t.hostVars = s.hostVars ∨ ∃ x v, t.hostVars = varSet s.hostVars x v) : t.Legal := by
  rcases hv with hv | ⟨x, v, hv⟩
  · exact h.congr hctl.status hctl.engine hctl.cmd hv
  · exact (h.setVar x v).congr hctl.status hctl.engine hctl.cmd hv

theorem State.Legal.vars_canonical {s : State} (h : s.Legal) : varsWf s.hostVars = true := h.2.2

/-- A completion with an error: ERR comes with a code of 1 or 2, and the engine is idle. -/
theorem raise_legal {s : State} (e : ErrCode) (hv : varsWf s.hostVars = true) : (s.raise e).Legal := by
  have hcode : e.code ≠ 0#4 ∧ e.code ≤ 2#4 := by cases e <;> decide
  refine ⟨⟨?_, ?_, ?_, ?_⟩, rfl, hv⟩
  · simp [Engine.isBusy]
  · simp
  · simp [hcode.1]
  · simpa using hcode.2

/-- A completion without error: no ERR, no code, and the engine is idle. -/
theorem completeOk_legal {s : State} (hv : varsWf s.hostVars = true) : s.completeOk.Legal := by
  refine ⟨⟨?_, ?_, ?_, ?_⟩, rfl, hv⟩ <;> simp [Engine.isBusy]

/-- An acceptance: BUSY and nothing else, and the engine busy with the word now in CMD. -/
theorem accept_legal {s : State} (w : Word) (hv : varsWf s.hostVars = true) : (s.accept w).Legal := by
  refine ⟨⟨?_, ?_, ?_, ?_⟩, by simp [Engine.holds], hv⟩ <;> simp [Engine.isBusy]

/-- A host write of STATUS touches only STICKY_ERR, of which no invariant of one state speaks. -/
theorem State.Legal.writeStatus {s : State} (h : s.Legal) (w : Word) :
    (s.setStatus (statusWrite s.status w)).Legal := by
  obtain ⟨hst, hrest⟩ := h
  exact ⟨by simpa [State.StatusLegal] using hst, hrest⟩

theorem reset_legal : State.reset.Legal := by decide

/-- A reset of the block gives it reset's own values and leaves the host's variables (R116). -/
theorem blockReset_legal {s : State} (hv : varsWf s.hostVars = true) : s.blockReset.Legal :=
  ⟨reset_legal.1, rfl, hv⟩

theorem State.Legal.complete {s t : State} (h : s.Legal) (ht : complete s = .next t) : t.Legal := by
  have hv := h.vars_canonical
  rcases complete_cases s with ⟨e, he⟩ | ⟨u, hu, hsame⟩
  · cases he.symm.trans ht
    exact raise_legal e hv
  · cases hu.symm.trans ht
    exact completeOk_legal (hsame.hostVars ▸ hv)

theorem State.Legal.writeOffset {s : State} (h : s.Legal) (off : Nat) (v : Word) :
    (s.writeOffset off v).Legal := by
  have hvars := writeOffset_hostVars s off v
  rcases writeOffset_cases s off v with ⟨-, hw⟩ | ⟨-, hw⟩ | ⟨-, -, hctl⟩
  · rw [hw]; exact accept_legal v h.vars_canonical
  · rw [hw]; exact h.writeStatus v
  · exact h.of_sameControl hctl (.inl hvars)

theorem State.Legal.runStmt {s t : State} {st : HostStmt} (h : s.Legal) (ht : runStmt st s = .next t) :
    t.Legal := by
  rcases runStmt_next ht with ⟨off, v, -, rfl, -⟩ | ⟨hctl, hvars⟩
  · exact (h.writeOffset off v).congr rfl rfl rfl rfl
  · exact h.of_sameControl hctl hvars

/-- Every step keeps a legal state legal, whichever agent moves. -/
theorem State.Legal.step {s t : State} (h : s.Legal) (ht : step s = .next t) : t.Legal := by
  rcases step_cases s with ⟨-, hs⟩ | ⟨-, -, hs⟩ | ⟨-, w, n, st, he, -, hs⟩ |
    ⟨-, -, st, -, hs⟩ | ⟨-, -, -, hs⟩
  · cases hs.symm.trans ht
    exact blockReset_legal h.vars_canonical
  · exact h.complete (hs.symm.trans ht)
  · exact (h.setRemaining he).runStmt (hs.symm.trans ht)
  · exact h.runStmt (hs.symm.trans ht)
  · cases hs.symm.trans ht
    exact h

end Sys2Proof.Machine

open Sys2Proof.Machine

/-- Settles O35: each of the invariants is a fact about reset's own values. -/
theorem resetStateIsLegal : Obligations.ResetStateIsLegal := reset_legal

/-- Settles O36, by the cases of a step. -/
theorem everyStepKeepsTheStateLegal : Obligations.EveryStepKeepsTheStateLegal :=
  fun _ _ h ht => h.step ht

end

section
/-! ERR without STICKY_ERR arises only by a host write that clears STICKY_ERR (R22). -/

namespace Sys2Proof.Machine

/-- ERR implies STICKY_ERR. -/
def State.ErrIsSticky (s : State) : Prop := statusErr s.status = true → statusSticky s.status = true

theorem State.ErrIsSticky.congr {s t : State} (h : s.ErrIsSticky) (hst : t.status = s.status) :
    t.ErrIsSticky := by
  unfold State.ErrIsSticky
  rw [hst]
  exact h

/-- A complete step sets both bits or clears ERR. -/
theorem complete_errIsSticky {s t : State} (ht : complete s = .next t) : t.ErrIsSticky := by
  rcases complete_cases s with ⟨e, he⟩ | ⟨u, hu, -⟩
  · cases he.symm.trans ht
    simp [State.ErrIsSticky]
  · cases hu.symm.trans ht
    simp [State.ErrIsSticky]

/-- A host statement keeps it, unless it writes STATUS with bit 3 set. -/
theorem State.ErrIsSticky.runStmt {s t : State} {st : HostStmt} (h : s.ErrIsSticky)
    (ht : runStmt st s = .next t)
    (hclear : ∀ v, transactionOf s.hostVars st = some (.write 0x04 v) → v.getLsbD 3 = false) :
    t.ErrIsSticky := by
  rcases runStmt_next ht with ⟨off, v, htr, rfl, -⟩ | ⟨hctl, -⟩
  · rcases writeOffset_cases s off v with ⟨-, hw⟩ | ⟨rfl, hw⟩ | ⟨-, -, hctl⟩
    · simp [State.ErrIsSticky, hw]
    · have hv := hclear v htr
      simpa only [State.ErrIsSticky, hw, State.hostNext_status, State.setStatus_status, statusErr_write,
        statusSticky_write, hv, Bool.not_false, Bool.and_true] using h
    · exact h.congr hctl.status
  · exact h.congr hctl.status

end Sys2Proof.Machine

open Sys2Proof.Machine Sys2Proof.Claims

/-- Settles O37, by the cases of a step: only the host's own statement can clear STICKY_ERR alone. -/
theorem errImpliesStickyUnlessCleared : Obligations.ErrImpliesStickyUnlessCleared := by
  intro s t ht h hclear
  change t.ErrIsSticky
  have hstmt : ∀ st, s.hostStmt? = some st → ∀ v, transactionOf s.hostVars st = some (.write 0x04 v) →
      v.getLsbD 3 = false := fun st hs v htr =>
    Bool.eq_false_iff.mpr fun hv => hclear ⟨st, v, hs, htr, hv⟩
  rcases step_cases s with ⟨-, hs⟩ | ⟨-, -, hs⟩ | ⟨-, w, n, st, -, hst, hs⟩ |
    ⟨-, -, st, hst, hs⟩ | ⟨-, -, -, hs⟩
  · cases hs.symm.trans ht
    intro herr
    exact absurd herr (by decide : ¬statusErr State.reset.status = true)
  · exact complete_errIsSticky (hs.symm.trans ht)
  · exact State.ErrIsSticky.runStmt (s := s.setEngine (.busy w n)) h (hs.symm.trans ht) (hstmt st hst)
  · exact State.ErrIsSticky.runStmt h (hs.symm.trans ht) (hstmt st hst)
  · cases hs.symm.trans ht
    exact h

end

section
/-! The complete step as equations (R37, R61), and the words that decode to no command (R62). -/

namespace Sys2Proof.Machine

open Sys2Proof.Claims

theorem complete_of_decode {s : State} {i : Instr} (h : decode s.cmd = .instr i) : complete s = exec i s := by
  simp only [complete, h]

theorem complete_of_reject {s : State} {r : Reject} (h : decode s.cmd = .reject r) :
    complete s = .next (s.raise .illegalCommand) := by
  simp only [complete, h]

theorem step_of_ready {s : State} {w : Word} (h : Ready s w) : step s = complete s := by
  obtain ⟨hr, -, he⟩ := h
  simp only [step_of_no_reset hr, agentStep, he]

/-- With no host statement left a busy engine completes, whatever latency is left (log entry 2). -/
theorem step_of_host_ended {s : State} {w : Word} {n : Nat} (hr : s.resetIn = false)
    (he : s.engine = .busy w n) (hs : s.hostStmt? = none) : step s = complete s := by
  rw [step_of_no_reset hr]
  cases n with
  | zero => simp only [agentStep, he]
  | succ n => simp only [agentStep, he, hs]

/-- The ranges of opcode values that R62 lists as illegal. -/
abbrev InOpcodeGap (n : Nat) : Prop :=
  (0x05 ≤ n ∧ n ≤ 0x0F) ∨ (0x12 ≤ n ∧ n ≤ 0x1F) ∨ (0x24 ≤ n ∧ n ≤ 0x2F) ∨ (0x32 ≤ n ∧ n ≤ 0xFF)

/-- An opcode in one of R62's ranges is in no row of the opcode map. -/
theorem opRow_of_gap {op : Byte} (h : InOpcodeGap op.toNat) : opRow op = none := by
  have outside : ∀ row ∈ opTable, ¬InOpcodeGap row.1.toNat := by decide
  rw [opRow, List.lookup_eq_none_iff]
  intro row hrow
  rw [bne_iff_ne]
  rintro rfl
  exact outside row hrow h

/-- The opcodes without an immediate are in rows of that kind (R60). -/
theorem opRow_of_plainOps {op : Byte} (h : op.toNat ∈ plainOps) : ∃ i, opRow op = some (.plain i) := by
  have rows : ∀ n ∈ plainOps, ∃ i, opRow (BitVec.ofNat 8 n) = some (.plain i) := by
    simp only [plainOps, List.forall_mem_cons]
    exact ⟨⟨_, rfl⟩, ⟨_, rfl⟩, ⟨_, rfl⟩, ⟨_, rfl⟩, ⟨_, rfl⟩, ⟨_, rfl⟩, ⟨_, rfl⟩, ⟨_, rfl⟩, by simp⟩
  simpa only [BitVec.ofNat_toNat, BitVec.setWidth_eq] using rows _ h

/-- The words R62 lists are the decoder's rejects (R61). -/
theorem decode_of_illegalWord {w : Word} (h : IllegalWord w) : ∃ r, decode w = .reject r := by
  unfold decode
  by_cases hrsv : rsvField w = 0#19
  · rw [if_neg (not_not_intro hrsv)]
    rcases h with h | hgap | ⟨hplain, himm⟩
    · exact absurd hrsv h
    · rw [opRow_of_gap (op := opField w) hgap]
      exact ⟨_, rfl⟩
    · obtain ⟨i, hi⟩ := opRow_of_plainOps (op := opField w) hplain
      rw [hi]
      exact ⟨_, if_pos himm⟩
  · exact ⟨_, if_pos hrsv⟩

/-- The end with an error, as the statements say it (R23, R99, R102). -/
theorem raise_endsError (s : State) (e : ErrCode) : EndsError e.code.toNat s (s.raise e) := by
  refine ⟨by simp [StatusIs], rfl, fun r hr _ => ?_, ⟨rfl, rfl, rfl, rfl, rfl⟩⟩
  cases r with
  | status => exact absurd rfl hr
  | _ => rfl

/-- A rejected word completes with ILLEGAL_COMMAND and no other effect (R61, R101). -/
theorem step_of_reject {s : State} {w : Word} {r : Reject} (h : Ready s w) (hd : decode w = .reject r) :
    step s = .next (s.raise .illegalCommand) := by
  have ⟨_, hcmd, _⟩ := h
  rw [step_of_ready h, complete_of_reject (hcmd ▸ hd)]

end Sys2Proof.Machine

open Sys2Proof Sys2Proof.Machine

/-- Settles O51: both ways of completing are `complete`, and `complete` is `exec` of what CMD decodes to. -/
theorem stepRunsTheDecodedCommand : Obligations.StepRunsTheDecodedCommand := by
  refine ⟨fun s w i hd => ⟨fun h => ?_, fun n hr hcmd he hs => ?_⟩, ?_⟩
  · have ⟨_, hcmd, _⟩ := h
    rw [step_of_ready h, complete_of_decode (hcmd ▸ hd)]
  · rw [step_of_host_ended hr he hs, complete_of_decode (hcmd ▸ hd)]
  · rw [step_of_host_ended rfl (State.accept_engine _ _) rfl]
    exact complete_of_decode (by decide)

end

section
/-! What a command does to the registers (R19, R37): one function of the command, and what it leaves. -/

namespace Sys2Proof.Machine

/-- The registers as a command with an argument in range leaves them, before STATUS and the engine record
its end (R37, R60). -/
def State.effectOf (s : State) : Instr → State
  | .nop => s
  | .rotr => s.setResult (rotr s.opa (s.opb.extractLsb' 0 8))
  | .packle off => s.setResult (seedWord s.seed off)
  | .unpackle off => s.setSeed (overwrite s.seed off (unpackLE s.opa))
  | .revb => s.setResult (revb s.opa)
  | .seedPwd => s.seedPwd
  | .seedKey count => s.seedKey count
  | .mix n => s.setResult (mix s.seed n)
  | .scramble count => s.scramble count
  | .derivePwd => (s.seedPwd.setResult (mix s.seedPwd.seed 8)).setPwd (mix s.seedPwd.seed 8)
  | .deriveKey => (((s.deriveKeyWord 0).deriveKeyWord 1).deriveKeyWord 2).deriveKeyWord 3
  | .teaEnc => s.setBlock (teaEncrypt s.key s.v0 s.v1)
  | .teaDec => s.setBlock (teaDecrypt s.key s.v0 s.v1)

/-- An argument in range: the command's effect, then a completion without error (R23). -/
theorem exec_inRange (i : Instr) (s : State) (h : i.argInRange = true) :
    exec i s = .next (s.effectOf i).completeOk := by
  cases i with
  | packle n | unpackle n | seedKey n | mix n | scramble n =>
    simp only [Instr.argInRange, decide_eq_true_eq] at h
    exact if_neg (by omega)
  | _ => rfl

theorem exec_completes (i : Instr) (s : State) : ∃ t, exec i s = .next t := by
  rcases exec_cases i s with ⟨e, he⟩ | ⟨u, hu, -⟩
  · exact ⟨_, he⟩
  · exact ⟨_, hu⟩

@[simp] theorem effectOf_status (i : Instr) (s : State) : (s.effectOf i).status = s.status := by
  cases i <;> simp [State.effectOf]

/-! What each command leaves alone. -/

theorem effectOf_pwd {i : Instr} (s : State) (h : i ≠ .derivePwd) : (s.effectOf i).pwd = s.pwd := by
  cases i with
  | derivePwd => exact absurd rfl h
  | _ => simp [State.effectOf]

theorem effectOf_key {i : Instr} (s : State) (h : i ≠ .deriveKey) : (s.effectOf i).key = s.key := by
  cases i with
  | deriveKey => exact absurd rfl h
  | _ => simp [State.effectOf]

theorem effectOf_block {i : Instr} (s : State) (h : ¬(i = .teaEnc ∨ i = .teaDec)) :
    (s.effectOf i).v0 = s.v0 ∧ (s.effectOf i).v1 = s.v1 := by
  cases i with
  | teaEnc | teaDec => exact absurd (by simp) h
  | _ => simp [State.effectOf]

theorem effectOf_result {i : Instr} (s : State)
    (h : ¬(i ∈ [Instr.rotr, .revb, .derivePwd, .deriveKey] ∨
      ∃ n, i = .packle n ∨ i = .mix n ∨ i = .scramble n)) : (s.effectOf i).result = s.result := by
  cases i with
  | rotr | revb | derivePwd | deriveKey | packle | mix | scramble => exact absurd (by simp) h
  | _ => simp [State.effectOf]

theorem effectOf_seed {i : Instr} (s : State)
    (h : ¬(i ∈ [Instr.seedPwd, .derivePwd, .deriveKey] ∨
      ∃ n, i = .unpackle n ∨ i = .seedKey n ∨ i = .scramble n)) : (s.effectOf i).seed = s.seed := by
  cases i with
  | seedPwd | derivePwd | deriveKey | unpackle | seedKey | scramble => exact absurd (by simp) h
  | _ => simp [State.effectOf]

/-! From the effect to the whole command, in range or not. -/

/-- What neither STATUS nor the engine decides, and the command's effect keeps, the command keeps. -/
theorem exec_keeps {α : Type} (f : State → α) {i : Instr} {s t : State} (h : exec i s = .next t)
    (hok : ∀ u : State, f u.completeOk = f u) (hraise : ∀ e, f (s.raise e) = f s)
    (heffect : f (s.effectOf i) = f s) : f t = f s := by
  cases hrange : i.argInRange with
  | true =>
    cases (exec_inRange i s hrange).symm.trans h
    rw [hok, heffect]
  | false =>
    cases (exec_outOfRange i s hrange).symm.trans h
    exact hraise _

/-- No command changes the command word or an operand (R19, R20, R24, R27, R28). -/
theorem exec_keeps_operands {i : Instr} {s t : State} (h : exec i s = .next t) :
    t.cmd = s.cmd ∧ t.uid0 = s.uid0 ∧ t.uid1 = s.uid1 ∧ t.opa = s.opa ∧ t.opb = s.opb := by
  rcases exec_cases i s with ⟨e, he⟩ | ⟨u, hu, hsame⟩
  · cases he.symm.trans h
    exact ⟨rfl, rfl, rfl, rfl, rfl⟩
  · cases hu.symm.trans h
    exact ⟨hsame.cmd, hsame.uid0, hsame.uid1, hsame.opa, hsame.opb⟩

theorem exec_keeps_pwd {i : Instr} {s t : State} (h : exec i s = .next t) (hi : i ≠ .derivePwd) :
    t.pwd = s.pwd :=
  exec_keeps State.pwd h (fun _ => rfl) (fun _ => rfl) (effectOf_pwd s hi)

end Sys2Proof.Machine

open Sys2Proof Sys2Proof.Machine Sys2Proof.Claims

/-- Settles O30: a register that differs after a command differs in the command's effect, and the effect of
each command writes only the registers of R19's last column. -/
theorem commandsWriteOnlyTheirDestinations : Obligations.CommandsWriteOnlyTheirDestinations := by
  intro i s
  obtain ⟨t, ht⟩ := exec_completes i s
  obtain ⟨hcmd, huid0, huid1, hopa, hopb⟩ := exec_keeps_operands ht
  refine ⟨t, ht, ?operands, ?pwd, ?key, ?block, ?result, ?seed⟩
  case operands => simp [State.read, hcmd, huid0, huid1, hopa, hopb]
  case pwd => exact fun hne => by_contra fun hi => hne (exec_keeps_pwd ht hi)
  case key =>
    refine fun j hne => by_contra fun hi => hne ?_
    exact congrArg (·[j]) (exec_keeps State.key ht (fun _ => rfl) (fun _ => rfl) (effectOf_key s hi))
  case block =>
    intro r hr hne
    by_contra hi
    obtain ⟨hv0, hv1⟩ := effectOf_block s hi
    have h0 := exec_keeps State.v0 ht (fun _ => rfl) (fun _ => rfl) hv0
    have h1 := exec_keeps State.v1 ht (fun _ => rfl) (fun _ => rfl) hv1
    rcases List.mem_pair.mp hr with rfl | rfl
    · exact hne h0
    · exact hne h1
  case result =>
    refine fun hne => by_contra fun hi => hne ?_
    exact exec_keeps State.result ht (fun _ => rfl) (fun _ => rfl) (effectOf_result s hi)
  case seed =>
    refine fun hne => by_contra fun hi => hne ?_
    exact exec_keeps State.seed ht (fun _ => rfl) (fun _ => rfl) (effectOf_seed s hi)

/-- Settles O34: the fields of STATUS after each update, and which end each command takes. -/
theorem engineUpdatesOfStatus : Obligations.EngineUpdatesOfStatus := by
  refine ⟨fun s w => ?accept, fun i s h => ?ok, fun i s h => ?invalid, fun s r h hd => ?illegal⟩
  case accept => simp [StatusIs]
  case ok => exact ⟨_, exec_inRange i s h, by simp [StatusIs]⟩
  case invalid => exact ⟨_, exec_outOfRange i s h, (raise_endsError s .invalidArgument).1⟩
  case illegal => exact ⟨_, step_of_reject h hd, (raise_endsError s .illegalCommand).1⟩

end

section
/-! Bytes of words: `packLE`, and SEEDi as four seed bytes (R43, R73, R74, R83). -/

namespace Sys2Proof.Machine

/-- Byte `k` of a packed word is the byte it was packed from (R73). -/
theorem extractLsb'_packLE (b : Nat → Byte) (k : Fin 4) :
    (packLE (b 0) (b 1) (b 2) (b 3)).extractLsb' (8 * k.val) 8 = b k.val := by
  have above {v : Nat} (hi : BitVec v) (lo : Byte) (start : Nat) :
      (hi ++ lo).extractLsb' (8 + start) 8 = hi.extractLsb' start 8 := by
    rw [BitVec.extractLsb'_append_eq_of_le (by omega), Nat.add_sub_cancel_left]
  rw [packLE_eq_append]
  match k with
  | 0 => exact BitVec.extractLsb'_append_eq_right
  | 1 => exact (above _ _ 0).trans BitVec.extractLsb'_append_eq_right
  | 2 => exact ((above _ _ 8).trans (above _ _ 0)).trans BitVec.extractLsb'_append_eq_right
  | 3 => exact ((above _ _ 16).trans (above _ _ 8)).trans BitVec.extractLsb'_append_eq_left

/-- A word is its four bytes packed (R73, R74). -/
theorem packLE_byteOf (w : Word) : packLE (byteOf w 0) (byteOf w 1) (byteOf w 2) (byteOf w 3) = w := by
  simp only [packLE_eq_append, byteOf]
  rw [BitVec.extractLsb'_append_extractLsb'_eq_extractLsb' (by rfl),
    BitVec.extractLsb'_append_extractLsb'_eq_extractLsb' (by rfl),
    BitVec.extractLsb'_append_extractLsb'_eq_extractLsb' (by rfl)]
  exact BitVec.extractLsb'_eq_self

theorem getElem_unpackLE (w : Word) (k : Fin 4) : (unpackLE w)[k] = w.extractLsb' (8 * k.val) 8 := by
  fin_cases k <;> rfl

/-- A seed byte is a byte of the seed word that holds it (R83). -/
theorem extractLsb'_seedWord (buf : SeedBuffer) (off : Nat) (k : Fin 4) :
    (seedWord buf off).extractLsb' (8 * k.val) 8 = seedByte buf (off + k.val) :=
  extractLsb'_packLE (fun j => seedByte buf (off + j)) k

/-- The four bytes written are the bytes of the word (R32, R79). -/
theorem seedByte_overwrite_unpackLE (buf : SeedBuffer) {off : Nat} (w : Word) (k : Fin 4) (h : off ≤ 28) :
    seedByte (overwrite buf off (unpackLE w)) (off + k.val) = w.extractLsb' (8 * k.val) 8 := by
  rw [seedByte_overwrite_in _ _ _ _ (by omega) (by omega), ← getElem_unpackLE]
  simp only [Nat.add_sub_cancel_left, Fin.getElem_fin]

theorem seedWord_overwrite_same (buf : SeedBuffer) {off : Nat} (w : Word) (h : off ≤ 28) :
    seedWord (overwrite buf off (unpackLE w)) off = w := by
  have byte (k : Fin 4) := seedByte_overwrite_unpackLE buf w k h
  calc seedWord (overwrite buf off (unpackLE w)) off
      = packLE (byteOf w 0) (byteOf w 1) (byteOf w 2) (byteOf w 3) :=
        congr (congr (congr (congrArg packLE (byte 0)) (byte 1)) (byte 2)) (byte 3)
    _ = w := packLE_byteOf w

theorem seedWord_overwrite_other (buf : SeedBuffer) {off lo : Nat} (w : Word)
    (h : off + 4 ≤ lo ∨ lo + 4 ≤ off) : seedWord (overwrite buf lo (unpackLE w)) off = seedWord buf off := by
  have byte : ∀ k, k < 4 → seedByte (overwrite buf lo (unpackLE w)) (off + k) = seedByte buf (off + k) :=
    fun k hk => seedByte_overwrite_out _ _ _ _ (by omega)
  have byte0 := byte 0 (by omega)
  simp only [Nat.add_zero] at byte0
  rw [seedWord, byte0, byte 1 (by omega), byte 2 (by omega), byte 3 (by omega), seedWord]

end Sys2Proof.Machine
end

section
/-! What a register reads after a write of it, and of another (R19, R48). -/

namespace Sys2Proof.Machine

theorem mem_allRegs (r : Reg) : r ∈ allRegs := List.mem_of_find?_eq_some (regAt_regOffset r)

/-- While the block is not busy every accepted write is performed (R124). -/
theorem hostWrite_idle {s : State} (off : Nat) (v : Word) (h : statusBusy s.status = false) :
    hostWrite off v s = .next (s.writeOffset off v) := by
  simp [hostWrite, h]

theorem hostWrite_regOffset_idle {s : State} (r : Reg) (v : Word) (h : statusBusy s.status = false) :
    hostWrite (regOffset r) v s = .next (s.write r v) := by
  rw [hostWrite_idle _ _ h, writeOffset_regOffset]

/-- A register that stores all 32 bits reads as the word written. -/
theorem read_write_same {r : Reg} (s : State) (w : Word) (hr : r ∉ [Reg.cmd, .status, .uid1, .pwd]) :
    (s.write r w).read r = w := by
  cases r with
  | cmd | status | uid1 | pwd => exact absurd (by simp) hr
  | key j => simp [State.write, State.read, State.setKey]
  | seed i => exact seedWord_overwrite_same s.seed w (by omega)
  | _ => rfl

/-- A write changes no other register, but that an acceptance changes STATUS too (R20, R48). -/
theorem read_write_other {r q : Reg} (s : State) (w : Word) (hq : q ≠ r) (hs : r = .cmd → q ≠ .status) :
    (s.write r w).read q = s.read q := by
  cases r with
  | cmd =>
    cases q with
    | cmd => exact absurd rfl hq
    | status => exact absurd rfl (hs rfl)
    | _ => rfl
  | key j =>
    cases q with
    | key k =>
      have hjk : j.val ≠ k.val := fun h => hq (congrArg Reg.key (Fin.ext h.symm))
      simp [State.write, State.read, State.setKey, hjk]
    | _ => rfl
  | seed i =>
    cases q with
    | seed k =>
      have hik : i.val ≠ k.val := fun h => hq (congrArg Reg.seed (Fin.ext h.symm))
      exact seedWord_overwrite_other s.seed w (by omega)
    | _ => simp [State.write, State.read]
  | _ => cases q <;> simp [State.write, State.read] at hq ⊢

theorem write_sameOutside {r : Reg} (s : State) (w : Word) (hr : r ≠ .cmd) :
    Claims.SameOutside s (s.write r w) := by
  cases r with
  | cmd => exact absurd rfl hr
  | _ => simp [Claims.SameOutside, State.write]

end Sys2Proof.Machine
end

section
/-! A host write of STATUS on the whole register, and the UID's bytes in UID0 and UID1 (R21, R24, R25). -/

namespace Sys2Proof.Machine

/-- On the register, a write of STATUS clears bit 3 or changes nothing (R21). -/
theorem setWidth_statusWrite (st : BitVec 8) (w : Word) :
    (statusWrite st w).setWidth 32 =
      if w.getLsbD 3 = true then st.setWidth 32 &&& 0xFFFFFFF7#32 else st.setWidth 32 := by
  unfold statusWrite
  cases w.getLsbD 3 with
  | true => revert st; decide
  | false => simp [statusPack_fields]

theorem getElem_uid_low (s : State) (k : Fin 4) : s.uid[k.val] = (s.read .uid0).extractLsb' (8 * k.val) 8 := by
  fin_cases k <;> rfl

theorem getElem_uid_high (s : State) (k : Fin 3) :
    s.uid[4 + k.val] = (s.read .uid1).extractLsb' (8 * k.val) 8 := by
  fin_cases k <;> rfl

/-- The byte of UID1 that is not stored (R25). -/
theorem byteOf_uid1_top (s : State) : byteOf (s.read .uid1) 3 = 0#8 := by
  apply BitVec.eq_of_getLsbD_eq
  intro i hi
  simp [byteOf, State.read]

theorem read_write_uid1 (s : State) (w : Word) : (s.write .uid1 w).read .uid1 = w &&& 0x00FFFFFF#32 := by
  apply BitVec.eq_of_getLsbD_eq
  intro i hi
  interval_cases i <;> simp [State.write, State.read]

end Sys2Proof.Machine
end

section
/-! The statements about single registers (10_state.md). -/

open Sys2Proof Sys2Proof.Machine Sys2Proof.Claims

/-- Settles O32: a write of CMD is an acceptance, and neither a command nor a write elsewhere reaches CMD. -/
theorem cmdWriteAcceptsACommand : Obligations.CmdWriteAcceptsACommand := by
  refine ⟨fun s w hidle => ?accepts, fun s w hw h => ?illegal, fun i s => ?commands,
    fun s t off w hoff h => ?others, fun s => ?read, rfl, fun s w hbusy => ?hazard⟩
  case accepts =>
    refine ⟨s.write .cmd w, hostWrite_regOffset_idle .cmd w hidle, rfl, ⟨_, rfl⟩, ?_, fun r hr hout => ?_⟩
    · simp [StatusIs, State.write]
    · exact read_write_other s w (by simpa using hout) fun _ => hr
  case illegal =>
    obtain ⟨r, hr⟩ := decode_of_illegalWord hw
    exact ⟨_, step_of_reject h hr, raise_endsError s .illegalCommand⟩
  case commands =>
    obtain ⟨t, ht⟩ := exec_completes i s
    obtain ⟨hcmd, -⟩ := exec_keeps_operands ht
    exact ⟨t, ht, hcmd⟩
  case others =>
    obtain ⟨rfl, -⟩ := hostWrite_next h
    rcases writeOffset_cases s off w with ⟨h0, -⟩ | ⟨-, hst⟩ | ⟨-, -, hctl⟩
    · exact absurd h0 hoff
    · rw [hst]; rfl
    · exact hctl.cmd
  case read => simp [hostRead, ← readOffset_regOffset, regOffset]
  case hazard => exact hostWrite_busy (r := .cmd) w hbusy (by simp)

/-- Settles O33: the fields by their bits, the write by its effect on the register. -/
theorem statusReadAndWrite : Obligations.StatusReadAndWrite := by
  refine fun s => ⟨?fields, ?read, fun w => ?write⟩
  case fields =>
    refine ⟨?_, ?_, ?_, ?_, ?_, ?_⟩
    · simp [State.read, statusBusy]
    · simp [State.read, statusDone]
    · simp [State.read, statusErr]
    · simp [State.read, statusSticky]
    · exact BitVec.extractLsb'_setWidth_of_le (by omega)
    · apply BitVec.eq_of_getLsbD_eq
      intro i hi
      simp [State.read]
  case read => simp [hostRead, ← readOffset_regOffset, regOffset]
  case write =>
    exact ⟨s.write .status w, hostWrite_status s w, setWidth_statusWrite s.status w, rfl,
      fun r hr _ => read_write_other s w hr (by simp), write_sameOutside s w (by simp)⟩

/-- Settles O39: UID0 and UID1 are the packed UID bytes, the byte of UID1 not stored being 0. -/
theorem uidRegistersHoldSevenBytes : Obligations.UidRegistersHoldSevenBytes := by
  refine fun s => ⟨getElem_uid_low s, getElem_uid_high s, ?uid0, ?uid1, byteOf_uid1_top s,
    fun w hidle => ?write, fun i => ?commands⟩
  case uid0 => exact (packLE_byteOf (s.read .uid0)).symm
  case uid1 =>
    rw [← byteOf_uid1_top s]
    exact (packLE_byteOf (s.read .uid1)).symm
  case write =>
    exact ⟨s.write .uid1 w, hostWrite_regOffset_idle .uid1 w hidle, read_write_uid1 s w,
      fun r _ hout => read_write_other s w (by simpa using hout) (by simp),
      read_write_other s w (by simp) (by simp), rfl, write_sameOutside s w (by simp)⟩
  case commands =>
    obtain ⟨t, ht⟩ := exec_completes i s
    obtain ⟨-, huid0, huid1, -⟩ := exec_keeps_operands ht
    exact ⟨t, ht, huid0, congrArg (BitVec.setWidth 32) huid1⟩

/-- Settles O40: SEEDi is packed from its bytes, and written as the four bytes of a word. -/
theorem seedRegistersAreTheSeedBytes : Obligations.SeedRegistersAreTheSeedBytes := by
  refine fun s i => ⟨fun k => (extractLsb'_seedWord s.seed _ k).symm, rfl, fun w hidle => ?_⟩
  exact ⟨s.write (.seed i) w, hostWrite_regOffset_idle (.seed i) w hidle,
    fun k => seedByte_overwrite_unpackLE s.seed w k (by omega),
    fun j hj => seedByte_overwrite_out s.seed _ _ j hj, read_write_same s w (by simp)⟩

/-- Settles O42, by what each register reads after the write. -/
theorem hostWriteOnlyStoresItsValue : Obligations.HostWriteOnlyStoresItsValue := by
  intro s r w hidle hr
  obtain ⟨hcmd, hstatus⟩ : r ≠ .cmd ∧ r ≠ .status := by simp at hr; tauto
  exact ⟨s.write r w, hostWrite_regOffset_idle r w hidle, read_write_same s w hr,
    fun q _ hq => read_write_other s w (by simpa using hq) (absurd · hcmd),
    read_write_other s w hstatus.symm (absurd · hcmd), (write_sameControl s w hcmd hstatus).engine,
    write_sameOutside s w hcmd⟩

/-- Settles O44: the write of PWD stores nothing, and the frame of the commands leaves only DERIVE_PWD. -/
theorem passwordIsReadOnlyToTheHost : Obligations.PasswordIsReadOnlyToTheHost := by
  refine ⟨fun s w hidle => hostWrite_regOffset_idle .pwd w hidle, fun i s => ?_,
    fun s k => getElem_unpackLE _ k⟩
  obtain ⟨t, ht⟩ := exec_completes i s
  exact ⟨t, ht, exec_keeps_pwd ht⟩

/-- Settles O43: no register stands at a reserved offset. -/
theorem reservedOffsetsReadZeroAndIgnoreWrites : Obligations.ReservedOffsetsReadZeroAndIgnoreWrites := by
  intro s off hidle hoff
  have noReg : ∀ off ∈ reservedOffsets, regAt off = none := by decide
  refine ⟨?_, fun w => ?_⟩
  · rw [hostRead_idle off hidle, State.readOffset, noReg off hoff]
  · rw [hostWrite_idle off w hidle, State.writeOffset, noReg off hoff]

/-- Settles O49, register by register. -/
theorem resetValues : Obligations.ResetValues := by
  refine ⟨fun r => ?_, by decide, by decide, rfl⟩
  have zero : ∀ r ∈ allRegs, State.reset.read r = 0#32 := by decide
  exact zero r (mem_allRegs r)

end

section
/-! The register window on the bus: its bytes, the accesses it accepts, and what a read leaves as it was
(R43, R44, R48). -/

namespace Sys2Proof.Machine

/-- Every register stands at a multiple of 4 (R19). -/
theorem regOffset_mod_four (r : Reg) : regOffset r % 4 = 0 := by
  cases r with
  | key j => simp only [regOffset]; omega
  | seed i => simp only [regOffset]; omega
  | _ => rfl

/-- The four bytes from a register's offset on are the bytes of the register (R43). -/
theorem windowByte_regOffset (s : State) (r : Reg) (k : Fin 4) :
    s.windowByte (regOffset r + k.val) = (s.read r).extractLsb' (8 * k.val) 8 := by
  have haligned := regOffset_mod_four r
  have hword : 4 * ((regOffset r + k.val) / 4) = regOffset r := by omega
  have hbyte : (regOffset r + k.val) % 4 = k.val := by omega
  rw [State.windowByte, hword, hbyte, readOffset_regOffset, byteOf]

/-- The seed bytes stand in order from offset 0x40 on (R32, R43). -/
theorem windowByte_seed (s : State) (j : Fin 32) : s.windowByte (0x40 + j.val) = s.seed[j] := by
  let i : Fin 8 := ⟨j.val / 4, by omega⟩
  let k : Fin 4 := ⟨j.val % 4, by omega⟩
  have hj : 4 * i.val + k.val = j.val := Nat.div_add_mod j.val 4
  calc s.windowByte (0x40 + j.val)
      = s.windowByte (regOffset (.seed i) + k.val) := by rw [← hj, ← Nat.add_assoc, regOffset]
    _ = (seedWord s.seed (4 * i.val)).extractLsb' (8 * k.val) 8 := windowByte_regOffset s (.seed i) k
    _ = seedByte s.seed j.val := by rw [extractLsb'_seedWord, hj]
    _ = s.seed[j] := seedByte_of_lt s.seed j.val j.isLt

/-- The accesses that are accepted are those of a whole aligned word of the window (R44). -/
theorem acceptedOffset_eq_some_iff {addr bytes off : Nat} :
    acceptedOffset addr bytes = some off ↔
      bytes = 4 ∧ ∃ k, k < 32 ∧ addr = Config.base + 4 * k ∧ off = 4 * k := by
  unfold acceptedOffset
  split
  next h =>
    rw [Option.some.injEq]
    obtain ⟨hbytes, hlow, hhigh, haligned⟩ := h
    constructor
    · rintro rfl
      exact ⟨hbytes, (addr - Config.base) / 4, by omega, by omega, by omega⟩
    · rintro ⟨-, k, -, rfl, rfl⟩
      exact Nat.add_sub_cancel_left ..
  next h =>
    refine iff_of_false (by simp) ?_
    rintro ⟨hbytes, k, hk, haddr, -⟩
    exact h ⟨hbytes, by omega, by omega, by omega⟩

/-- An accepted access is performed at its offset. -/
theorem runStmt_bus_of_accepted {addr bytes off : Nat} (s : State) (x : Nat) (e : Expr)
    (h : acceptedOffset addr bytes = some off) :
    runStmt (.busRead addr bytes x) s = doRead off x s ∧
    runStmt (.busWrite addr bytes e) s = doWrite off (evalExpr s.hostVars e) s := by
  simp only [runStmt, h, and_self]

/-- An access that is not accepted is BUS_REJECT, whatever its direction (R44). -/
theorem runStmt_bus_of_rejected {addr bytes : Nat} (s : State) (x : Nat) (e : Expr)
    (h : acceptedOffset addr bytes = none) :
    runStmt (.busRead addr bytes x) s = .fault .busReject ∧
    runStmt (.busWrite addr bytes e) s = .fault .busReject := by
  simp only [runStmt, h, and_self]

/-- The draw counter is no part of a register. -/
@[simp] theorem State.draw_read (s : State) (r : Reg) : s.draw.read r = s.read r := by
  cases r <;> rfl

/-- No host read changes a register (R48). -/
theorem hostRead_snd_read (off : Nat) (s : State) (r : Reg) : (hostRead off s).2.read r = s.read r := by
  rcases hostRead_snd off s with h | h
  · rw [h]
  · rw [h, State.draw_read]

/-- No host read changes the engine (R48). -/
theorem hostRead_snd_engine (off : Nat) (s : State) : (hostRead off s).2.engine = s.engine := by
  rcases hostRead_snd off s with h | h
  · rw [h]
  · rw [h, State.draw_engine]

end Sys2Proof.Machine
end

section
/-! The statements about the register window (20_memory.md). -/

open Sys2Proof Sys2Proof.Machine

/-- Settles O41: a byte of the window is a byte of the register whose word holds it. -/
theorem windowIsLittleEndian : Obligations.WindowIsLittleEndian := by
  refine fun s => ⟨windowByte_regOffset s, windowByte_seed s, fun k => ?uidLow, fun k => ?uidHigh⟩
  case uidLow =>
    rw [getElem_uid_low]
    exact windowByte_regOffset s .uid0 k
  case uidHigh =>
    rw [getElem_uid_high]
    exact windowByte_regOffset s .uid1 k.castSucc

/-- Settles O45, by which accesses have an offset they are accepted at. -/
theorem onlyAlignedWordAccessesAreAccepted : Obligations.OnlyAlignedWordAccessesAreAccepted := by
  refine fun s addr bytes x e => ⟨fun hbad => ?rejected, fun k hk hbytes haddr => ?performed⟩
  case rejected =>
    refine runStmt_bus_of_rejected s x e (Option.eq_none_iff_forall_ne_some.mpr fun off hoff => hbad ?_)
    obtain ⟨hbytes, k, hk, haddr, -⟩ := acceptedOffset_eq_some_iff.mp hoff
    exact ⟨hbytes, k, hk, haddr⟩
  case performed =>
    exact runStmt_bus_of_accepted s x e (acceptedOffset_eq_some_iff.mpr ⟨hbytes, k, hk, haddr, rfl⟩)

/-- Settles O46: a host read changes the draw counter at most, and only while busy. -/
theorem readsHaveNoSideEffect : Obligations.ReadsHaveNoSideEffect := by
  refine fun s off => ⟨hostRead_snd_read off s, hostRead_snd_engine off s, hostRead_idle off,
    fun r hidle => ?_⟩
  rw [hostRead_idle _ hidle, readOffset_regOffset]

end

section
/-! The decoder as an equation on fields: which command a word decodes to (R57, R58, R60, R61). -/

namespace Sys2Proof

/-- The command of a row of the opcode map for an immediate, where the row allows the immediate (R60, R61
step 3). -/
def OpRow.instr? : OpRow → Nat → Option Instr
  | .plain i, n => if n = 0 then some i else none
  | .withImm mk, n => some (mk n)

/-- The decoder, by fields: no reserved bit, and the opcode's row gives the command for the immediate. -/
theorem decode_eq_instr_iff_row {w : Word} {i : Instr} :
    decode w = .instr i ↔
      rsvField w = 0#19 ∧ ∃ row, opRow (opField w) = some row ∧ row.instr? (immField w).toNat = some i := by
  have himm : (immField w).toNat = 0 ↔ immField w = 0#5 := BitVec.toNat_inj (y := 0#5)
  unfold decode
  by_cases hrsv : rsvField w = 0#19
  · rw [if_neg (not_not_intro hrsv)]
    cases hrow : opRow (opField w) with
    | none => simp
    | some row =>
      cases row with
      | plain j => by_cases h0 : immField w = 0#5 <;> simp [hrsv, OpRow.instr?, himm, h0]
      | withImm mk => simp [hrsv, OpRow.instr?]
  · simp [hrsv]

theorem mem_opTable_of_opRow {op : Byte} {row : OpRow} (h : opRow op = some row) : (op, row) ∈ opTable := by
  obtain ⟨before, after, htable, -⟩ := List.lookup_eq_some_iff.mp h
  rw [htable]
  exact List.mem_append_cons_self

/-- Row by row: the commands of a row have its opcode, and the immediate they were read with (R60). -/
theorem opcode_imm_of_mem_opTable :
    ∀ p ∈ opTable, ∀ n i, p.2.instr? n = some i → i.opcode = p.1 ∧ i.imm = n := by
  simp only [opTable, List.forall_mem_cons]
  simp [OpRow.instr?, Instr.opcode, Instr.imm]

/-- The opcode map and the encoder's two fields are inverse to each other (R60). -/
theorem opRow_instr?_iff {op : Byte} {n : Nat} {i : Instr} :
    (∃ row, opRow op = some row ∧ row.instr? n = some i) ↔ i.opcode = op ∧ i.imm = n := by
  constructor
  · rintro ⟨row, hrow, hi⟩
    exact opcode_imm_of_mem_opTable (op, row) (mem_opTable_of_opRow hrow) n i hi
  · rintro ⟨rfl, rfl⟩
    cases i <;> exact ⟨_, rfl, rfl⟩

/-- What a word decodes to, by its three fields. -/
theorem decode_eq_instr_iff_fields {w : Word} {i : Instr} :
    decode w = .instr i ↔ rsvField w = 0#19 ∧ i.opcode = opField w ∧ i.imm = (immField w).toNat := by
  rw [decode_eq_instr_iff_row, opRow_instr?_iff]

/-- The words that decode are the command words of the well-formed commands. -/
theorem decode_eq_instr_iff {w : Word} {i : Instr} :
    decode w = .instr i ↔ i.wellFormed = true ∧ encode i = w := by
  rw [decode_eq_instr_iff_fields]
  constructor
  case mp =>
    rintro ⟨hrsv, hop, himm⟩
    have hlt := (immField w).isLt
    refine ⟨decide_eq_true (by omega), ?_⟩
    rw [word_of_fields w, encode, assemble, hop, himm, hrsv, BitVec.ofNat_toNat, BitVec.setWidth_eq]
  case mpr =>
    rintro ⟨hwf, rfl⟩
    obtain ⟨hop, hrsv, himm⟩ := Laws.EncodedFields.of_assemble i
    exact ⟨hrsv, hop.symm, (himm hwf).symm⟩

end Sys2Proof

open Sys2Proof

/-- Settles O1, by the words that decode. -/
theorem encodeThenDecode : Obligations.EncodeThenDecode :=
  fun _ hwf => decode_eq_instr_iff.mpr ⟨hwf, rfl⟩

/-- Settles O2, by the words that decode. -/
theorem decodeThenEncode : Obligations.DecodeThenEncode :=
  fun _ _ h => decode_eq_instr_iff.mp h

end

section
/-! The words R62 lists are all the words that decode to no command, and what each word completes with (R62,
R63, R100 to R102). -/

namespace Sys2Proof.Machine

open Sys2Proof.Claims

/-- R62's ranges leave only opcodes of the map. -/
theorem exists_opRow_of_not_gap {op : Byte} (h : ¬InOpcodeGap op.toNat) : ∃ row, opRow op = some row := by
  rw [← Option.ne_none_iff_exists']
  revert op
  decide

/-- The rows without an immediate are those of the opcodes that R60 lists so. -/
theorem mem_plainOps_of_opRow {op : Byte} {i : Instr} (h : opRow op = some (.plain i)) :
    op.toNat ∈ plainOps := by
  have rows : ∀ p ∈ opTable, p.2 = .plain i → p.1.toNat ∈ plainOps := by simp [opTable, plainOps]
  exact rows _ (mem_opTable_of_opRow h) rfl

/-- A word that R62 does not list decodes. -/
theorem exists_decode_of_not_illegalWord {w : Word} (h : ¬IllegalWord w) : ∃ i, decode w = .instr i := by
  obtain ⟨hrsv, hgap, himm⟩ : ¬rsvField w ≠ 0#19 ∧ ¬InOpcodeGap (opOf w) ∧
      ¬(opOf w ∈ plainOps ∧ immField w ≠ 0#5) := by
    rw [← not_or, ← not_or]
    exact h
  obtain ⟨row, hrow⟩ := exists_opRow_of_not_gap (op := opField w) hgap
  suffices hi : ∃ i, row.instr? (immField w).toNat = some i by
    obtain ⟨i, hi⟩ := hi
    exact ⟨i, decode_eq_instr_iff_row.mpr ⟨not_not.mp hrsv, row, hrow, hi⟩⟩
  cases row with
  | plain i =>
    have himm0 : immField w = 0#5 := by_contra fun hne => himm ⟨mem_plainOps_of_opRow hrow, hne⟩
    exact ⟨i, if_pos (by rw [himm0]; rfl)⟩
  | withImm mk => exact ⟨mk _, rfl⟩

/-- The words with an argument out of range are the words of the commands whose range check fails (R63). -/
theorem badArgument_iff {w : Word} {i : Instr} (h : decode w = .instr i) :
    BadArgument w ↔ i.argInRange = false := by
  obtain ⟨hrsv, hop, himm⟩ := decode_eq_instr_iff_fields.mp h
  have hrsv' : w.extractLsb' 13 19 = 0#19 := hrsv
  have hop' : opOf w = i.opcode.toNat := congrArg BitVec.toNat hop.symm
  have himm' : immOf w = i.imm := himm.symm
  simp only [BadArgument, hrsv', hop', himm', true_and]
  cases i <;> simp [Instr.opcode, Instr.imm, Instr.argInRange] <;> omega

end Sys2Proof.Machine

open Sys2Proof Sys2Proof.Machine

/-- Settles O5: R62's list is the decoder's rejects, and a reject only raises ILLEGAL_COMMAND. -/
theorem illegalWordsCompleteWithIllegalCommand : Obligations.IllegalWordsCompleteWithIllegalCommand := by
  refine fun w => ⟨⟨fun hw i hi => ?rejected, fun hnone => ?listed⟩, fun hw s h => ?completes⟩
  case rejected =>
    obtain ⟨r, hr⟩ := decode_of_illegalWord hw
    cases hr.symm.trans hi
  case listed =>
    by_contra hw
    obtain ⟨i, hi⟩ := exists_decode_of_not_illegalWord hw
    exact hnone i hi
  case completes =>
    obtain ⟨r, hr⟩ := decode_of_illegalWord hw
    exact ⟨_, step_of_reject h hr, raise_endsError s .illegalCommand⟩

/-- Settles O6: an illegal word is a reject; any other is a command, and its range check decides the end. -/
theorem everyWordCompletesWithItsOwnError : Obligations.EveryWordCompletesWithItsOwnError := by
  intro s w h
  by_cases hw : Claims.IllegalWord w
  case pos =>
    obtain ⟨r, hr⟩ := decode_of_illegalWord hw
    exact ⟨_, step_of_reject h hr, rfl, fun _ => raise_endsError s .illegalCommand,
      absurd hw, absurd hw, absurd hw⟩
  case neg =>
    obtain ⟨i, hi⟩ := exists_decode_of_not_illegalWord hw
    have hstep : step s = exec i s := (stepRunsTheDecodedCommand.1 s w i hi).1 h
    rw [hstep]
    cases hrange : i.argInRange with
    | true =>
      have hgood : ¬Claims.BadArgument w := by simp [badArgument_iff hi, hrange]
      exact ⟨_, exec_inRange i s hrange, rfl, (absurd · hw), fun _ hbad => absurd hbad hgood,
        fun _ => ⟨i, hi, exec_inRange i s hrange⟩, fun _ _ => by simp [Claims.StatusIs]⟩
    | false =>
      have hbad := (badArgument_iff hi).mpr hrange
      exact ⟨_, exec_outOfRange i s hrange, rfl, (absurd · hw),
        fun _ _ => raise_endsError s .invalidArgument,
        fun _ => ⟨i, hi, exec_outOfRange i s hrange⟩, fun _ hgood => absurd hbad hgood⟩

end

section
/-! What a host statement does on the bus, and to the host's own place and variables (R65, R66). -/

namespace Sys2Proof.Machine

@[simp] theorem State.hostNext_read (s : State) (r : Reg) : s.hostNext.read r = s.read r := by
  cases r <;> rfl

@[simp] theorem State.setVar_read (s : State) (x : Nat) (v : Word) (r : Reg) :
    (s.setVar x v).read r = s.read r := by
  cases r <;> rfl

@[simp] theorem State.hostJump_read (s : State) (d : Int) (r : Reg) : (s.hostJump d).read r = s.read r := by
  cases r <;> rfl

/-! A host access leaves the host where it is; the statement around it moves it on. -/

/-- `t` has the host of `s`: its program, its place in it and its variables. -/
structure State.SameHost (s t : State) : Prop where
  hostProg : t.hostProg = s.hostProg
  hostPos : t.hostPos = s.hostPos
  hostVars : t.hostVars = s.hostVars

theorem write_sameHost (s : State) (r : Reg) (v : Word) : s.SameHost (s.write r v) := by
  cases r <;> constructor <;> simp [State.write]

theorem writeOffset_sameHost (s : State) (off : Nat) (v : Word) : s.SameHost (s.writeOffset off v) := by
  unfold State.writeOffset
  split
  · exact write_sameHost ..
  · exact ⟨rfl, rfl, rfl⟩

theorem hostRead_snd_sameHost (off : Nat) (s : State) : s.SameHost (hostRead off s).2 := by
  rcases hostRead_snd off s with h | h <;> rw [h] <;> exact ⟨rfl, rfl, rfl⟩

theorem doWrite_of_hostWrite_next {off : Nat} {v : Word} {s u : State} (h : hostWrite off v s = .next u) :
    doWrite off v s = .next u.hostNext := by
  rw [doWrite, h, mapNext_next]

theorem doWrite_of_hostWrite_fault {off : Nat} {v : Word} {s : State} {f : Fault}
    (h : hostWrite off v s = .fault f) : doWrite off v s = .fault f := by
  rw [doWrite, h, mapNext_fault]

/-- A host statement that reads puts the value in its variable and goes on; nothing else changes (R48, R65). -/
theorem doRead_effect (off x : Nat) {s : State} (hwf : varsWf s.hostVars = true) :
    ∃ t, doRead off x s = .next t ∧ varGet t.hostVars x = (hostRead off s).1 ∧
      (∀ y, y ≠ x → varGet t.hostVars y = varGet s.hostVars y) ∧ (∀ q : Reg, t.read q = s.read q) ∧
      t.engine = s.engine ∧ t.hostPos = s.hostPos + 1 := by
  obtain ⟨-, hpos, hvars⟩ := hostRead_snd_sameHost off s
  refine ⟨_, rfl, ?_, fun y hy => ?_, fun q => ?_, hostRead_snd_engine off s, ?_⟩
  · simp [hvars, varGet_varSet_same _ _ _ hwf]
  · simp [hvars, varGet_varSet_other _ _ _ _ hy]
  · simp [hostRead_snd_read]
  · simp [hpos]

/-! A statement performs the transaction it lists (R66). -/

theorem runStmt_of_write {st : HostStmt} {s : State} {off : Nat} {v : Word}
    (h : transactionOf s.hostVars st = some (.write off v)) : runStmt st s = doWrite off v s := by
  cases st with
  | wr r e => cases h; rfl
  | command i => cases h; rfl
  | busWrite addr bytes e =>
    obtain ⟨_, ha, htr⟩ := Option.map_eq_some_iff.mp h
    cases htr
    exact (runStmt_bus_of_accepted s 0 e ha).2
  | busRead addr bytes x =>
    obtain ⟨_, -, htr⟩ := Option.map_eq_some_iff.mp h
    cases htr
  | rd | assign | branch => cases h

theorem runStmt_of_read {st : HostStmt} {s : State} {off : Nat}
    (h : transactionOf s.hostVars st = some (.read off)) : ∃ x, runStmt st s = doRead off x s := by
  cases st with
  | rd r x => cases h; exact ⟨x, rfl⟩
  | busRead addr bytes x =>
    obtain ⟨_, ha, htr⟩ := Option.map_eq_some_iff.mp h
    cases htr
    exact ⟨x, (runStmt_bus_of_accepted s x (.const 0#32) ha).1⟩
  | busWrite addr bytes e =>
    obtain ⟨_, -, htr⟩ := Option.map_eq_some_iff.mp h
    cases htr
  | wr | command | assign | branch => cases h

/-- A statement without a transaction is an unaccepted access, or host-side arithmetic or control flow. -/
theorem stmt_of_no_transaction {st : HostStmt} {s : State} (h : transactionOf s.hostVars st = none) :
    runStmt st s = .fault .busReject ∨ (∃ x e, st = .assign x e) ∨ ∃ c d, st = .branch c d := by
  cases st with
  | busWrite addr bytes e => exact .inl (runStmt_bus_of_rejected s 0 e (Option.map_eq_none_iff.mp h)).2
  | busRead addr bytes x =>
    exact .inl (runStmt_bus_of_rejected s x (.const 0#32) (Option.map_eq_none_iff.mp h)).1
  | assign x e => exact .inr (.inl ⟨x, e, rfl⟩)
  | branch c d => exact .inr (.inr ⟨c, d, rfl⟩)
  | wr | rd | command => cases h

/-- A statement that is no branch and does not stop moves the host on by one (R65). -/
theorem runStmt_next_place {st : HostStmt} {s t : State} (hst : ∀ c d, st ≠ .branch c d)
    (h : runStmt st s = .next t) : t.hostProg = s.hostProg ∧ t.hostPos = s.hostPos + 1 := by
  cases htr : transactionOf s.hostVars st with
  | none =>
    rcases stmt_of_no_transaction htr with hfault | ⟨x, e, rfl⟩ | ⟨c, d, rfl⟩
    · cases hfault.symm.trans h
    · cases h; exact ⟨rfl, rfl⟩
    · exact absurd rfl (hst c d)
  | some tr =>
    cases tr with
    | write off v =>
      rw [runStmt_of_write htr] at h
      obtain ⟨rfl, -⟩ := doWrite_next h
      obtain ⟨hprog, hpos, -⟩ := writeOffset_sameHost s off v
      exact ⟨hprog, congrArg (· + 1) hpos⟩
    | read off =>
      obtain ⟨x, hx⟩ := runStmt_of_read htr
      cases hx.symm.trans h
      obtain ⟨hprog, hpos, -⟩ := hostRead_snd_sameHost off s
      exact ⟨hprog, congrArg (· + 1) hpos⟩

end Sys2Proof.Machine

open Sys2Proof Sys2Proof.Machine

/-- Settles O54, by the transaction the statement lists. -/
theorem hostStatementsPerformTheirTransactions : Obligations.HostStatementsPerformTheirTransactions := by
  refine fun st s => ⟨fun off v htr => ?write, fun off htr => ?read, fun htr => ?none⟩
  case write =>
    rw [runStmt_of_write htr]
    exact ⟨rfl, fun _ => doWrite_of_hostWrite_next, fun _ => doWrite_of_hostWrite_fault⟩
  case read =>
    obtain ⟨x, hx⟩ := runStmt_of_read htr
    exact ⟨x, hx, hx⟩
  case none =>
    rcases stmt_of_no_transaction htr with hfault | ⟨x, e, rfl⟩ | ⟨c, d, rfl⟩
    · exact .inl hfault
    · exact .inr ⟨_, rfl, fun r => by simp, rfl⟩
    · refine .inr ⟨_, rfl, fun r => ?_, ?_⟩ <;> split <;> simp

/-- Settles O53: a read sets its variable, and a write is the register's write, then the next statement. -/
theorem hostStatementsAccessTheWindow : Obligations.HostStatementsAccessTheWindow := by
  refine fun s hwf => ⟨fun r x => doRead_effect _ x hwf,
    fun r e => ⟨fun _ => doWrite_of_hostWrite_next, fun _ => doWrite_of_hostWrite_fault⟩,
    fun hidle r x => ?readIdle, fun hidle r e => ?writeIdle, fun i => rfl⟩
  case readIdle =>
    obtain ⟨t, ht, hx, hother, hregs, -, hpos⟩ := doRead_effect (regOffset r) x hwf
    rw [hostRead_idle _ hidle, readOffset_regOffset] at hx
    exact ⟨t, ht, hx, hother, hregs, hpos⟩
  case writeIdle =>
    exact ⟨_, doWrite_of_hostWrite_next (hostWrite_regOffset_idle r _ hidle),
      congrArg (· + 1) (write_sameHost s r _).hostPos, State.hostNext_read _⟩

end

section
/-! The transactions of a run, and those of a program without branches (R66). -/

namespace Sys2Proof.Machine

/-- A run of one step more that does not stop is a step, then a run. -/
theorem exists_step_of_run_succ {s t : State} {k : Nat} (h : Sys2Proof.core.run (k + 1) s = .next t) :
    ∃ u, step s = .next u ∧ Sys2Proof.core.run k u = .next t := by
  have e : Sys2Proof.core.step = step := rfl
  simp only [Host.Core.run, e] at h
  split at h
  next u hu => exact ⟨u, hu, h⟩
  next => cases h
  next => cases h

theorem complete_sameHost {s : State} : ∃ t, complete s = .next t ∧ s.SameHost t := by
  rcases complete_cases s with ⟨e, he⟩ | ⟨u, hu, hsame⟩
  · exact ⟨_, he, rfl, rfl, rfl⟩
  · exact ⟨_, hu, hsame.hostProg, hsame.hostPos, hsame.hostVars⟩

/-- A step without a host statement is a reset, a complete step or a wait: it leaves the host where it is. -/
theorem step_of_no_nextStmt {s : State} (h : s.nextStmt? = none) : ∃ t, step s = .next t ∧ s.SameHost t := by
  unfold State.nextStmt? at h
  rcases step_cases s with ⟨-, hs⟩ | ⟨-, -, hs⟩ | ⟨hr, w, n, st, he, hst, -⟩ |
    ⟨hr, he, st, hst, -⟩ | ⟨-, -, -, hs⟩
  · exact ⟨_, hs, rfl, rfl, rfl⟩
  · rw [hs]
    exact complete_sameHost
  · simp [hr, he, hst] at h
  · simp [hr, he, hst] at h
  · exact ⟨s, hs, rfl, rfl, rfl⟩

theorem transaction?_of_nextStmt {s : State} {st : HostStmt} (h : s.nextStmt? = some st) :
    s.transaction? = transactionOf s.hostVars st := by
  rw [State.transaction?, h, Option.bind_some]

theorem transaction?_of_no_nextStmt {s : State} (h : s.nextStmt? = none) : s.transaction? = none := by
  rw [State.transaction?, h, Option.bind_none]

theorem transactionsOfRun_of_no_nextStmt {s t : State} (k : Nat) (h : s.nextStmt? = none)
    (hstep : step s = .next t) : transactionsOfRun (k + 1) s = transactionsOfRun k t := by
  rw [transactionsOfRun_succ k hstep, transaction?_of_no_nextStmt h, Option.toList_none, List.nil_append]

/-- The statements of a program from place `p` up to place `q`. -/
def stmtsBetween (prog : List HostStmt) (p q : Nat) : List HostStmt := (prog.drop p).take (q - p)

theorem stmtsBetween_self (prog : List HostStmt) (p : Nat) : stmtsBetween prog p p = [] := by
  simp [stmtsBetween]

theorem stmtsBetween_of_getElem? {prog : List HostStmt} {p q : Nat} {st : HostStmt} (h : prog[p]? = some st)
    (hpq : p + 1 ≤ q) : stmtsBetween prog p q = st :: stmtsBetween prog (p + 1) q := by
  have hlen : q - p = q - (p + 1) + 1 := by omega
  rw [stmtsBetween, List.drop_eq_getElem?_toList_append, h, Option.toList_some, List.singleton_append, hlen,
    List.take_succ_cons, stmtsBetween]

/-- A program without branches whose written values are constants (R66). -/
def StraightProgram (prog : List HostStmt) : Prop :=
  ∀ st ∈ prog, (∀ c d, st ≠ .branch c d) ∧ ∀ vars, transactionOf vars st = transactionOf [] st

/-- By induction on the steps: a step of the host lists the statement it moves past, and any other step
lists nothing and leaves the host where it is. -/
theorem transactionsOfRun_of_straight {k : Nat} {s t : State} (hprog : StraightProgram s.hostProg)
    (h : Sys2Proof.core.run k s = .next t) :
    s.hostPos ≤ t.hostPos ∧
      transactionsOfRun k s = programTransactions [] (stmtsBetween s.hostProg s.hostPos t.hostPos) := by
  induction k generalizing s with
  | zero =>
    cases h
    exact ⟨Nat.le_refl _, by rw [stmtsBetween_self, transactionsOfRun_zero, programTransactions_nil]⟩
  | succ k ih =>
    obtain ⟨u, hstep, hrun⟩ := exists_step_of_run_succ h
    cases hnext : s.nextStmt? with
    | none =>
      obtain ⟨u', hu', hprogEq, hposEq, -⟩ := step_of_no_nextStmt hnext
      cases hu'.symm.trans hstep
      rw [transactionsOfRun_of_no_nextStmt k hnext hstep, ← hprogEq, ← hposEq]
      exact ih (hprogEq ▸ hprog) hrun
    | some st =>
      obtain ⟨hst, e, hrunStmt⟩ := step_of_nextStmt hnext
      obtain ⟨hbranch, hconst⟩ := hprog st (List.mem_of_getElem? hst)
      obtain ⟨hprogEq, hposEq⟩ := runStmt_next_place hbranch (hrunStmt.symm.trans hstep)
      rw [State.setEngine_hostProg] at hprogEq
      rw [State.setEngine_hostPos] at hposEq
      obtain ⟨hle, hlist⟩ := ih (hprogEq ▸ hprog) hrun
      rw [hposEq] at hle
      refine ⟨by omega, ?_⟩
      rw [transactionsOfRun_succ k hstep, transaction?_of_nextStmt hnext, hconst, hlist, hprogEq, hposEq,
        stmtsBetween_of_getElem? hst hle, programTransactions_cons]

end Sys2Proof.Machine

open Sys2Proof Sys2Proof.Machine

/-- Settles O55: the lists are built step by step, and in a straight program every statement is listed
once. -/
theorem runTransactionsFollowTheProgram : Obligations.RunTransactionsFollowTheProgram := by
  refine ⟨fun vars r e x i => rfl, fun s => ⟨fun st => step_of_nextStmt, fun hnext => ?none,
    fun t k => transactionsOfRun_succ k⟩, fun s hprog k t => transactionsOfRun_of_straight hprog⟩
  case none =>
    obtain ⟨t, ht, hprog, hpos, hvars⟩ := step_of_no_nextStmt hnext
    exact ⟨t, ht, hprog, hpos, hvars, fun k => transactionsOfRun_of_no_nextStmt k hnext ht⟩

end

section
/-! The end of a `wait`: polling changes nothing but the host and the latency left, so the complete step comes
out the same whenever it comes (R52, R67, R121). -/

namespace Sys2Proof.Machine

/-- `s` with the engine and the host's place and variables as given: all that polling STATUS changes. -/
def State.withPoll (s : State) (e : Engine) (pos : Nat) (vars : List (Nat × Word)) : State :=
  ((s.setEngine e).setHostPos pos).setHostVars vars

theorem State.withPoll_of_engine {s : State} {e : Engine} (h : s.engine = e) :
    s.withPoll e s.hostPos s.hostVars = s := by
  subst h; rfl

section
variable (s : State) (e : Engine) (p : Nat) (vars : List (Nat × Word))

@[simp] theorem State.withPoll_opa : (s.withPoll e p vars).opa = s.opa := rfl
@[simp] theorem State.withPoll_opb : (s.withPoll e p vars).opb = s.opb := rfl
@[simp] theorem State.withPoll_result : (s.withPoll e p vars).result = s.result := rfl
@[simp] theorem State.withPoll_key : (s.withPoll e p vars).key = s.key := rfl
@[simp] theorem State.withPoll_v0 : (s.withPoll e p vars).v0 = s.v0 := rfl
@[simp] theorem State.withPoll_v1 : (s.withPoll e p vars).v1 = s.v1 := rfl
@[simp] theorem State.withPoll_seed : (s.withPoll e p vars).seed = s.seed := rfl
@[simp] theorem State.withPoll_uid : (s.withPoll e p vars).uid = s.uid := rfl
@[simp] theorem State.withPoll_hostVars : (s.withPoll e p vars).hostVars = vars := rfl
@[simp] theorem State.withPoll_read (r : Reg) : (s.withPoll e p vars).read r = s.read r := by cases r <;> rfl

/-! The operations of the commands do not look at what polling changes. -/

@[simp] theorem State.withPoll_setResult (v : Word) :
    (s.withPoll e p vars).setResult v = (s.setResult v).withPoll e p vars := rfl
@[simp] theorem State.withPoll_setPwd (v : Word) :
    (s.withPoll e p vars).setPwd v = (s.setPwd v).withPoll e p vars := rfl
@[simp] theorem State.withPoll_setKey (j : Fin 4) (v : Word) :
    (s.withPoll e p vars).setKey j v = (s.setKey j v).withPoll e p vars := rfl
@[simp] theorem State.withPoll_setSeed (v : SeedBuffer) :
    (s.withPoll e p vars).setSeed v = (s.setSeed v).withPoll e p vars := rfl
@[simp] theorem State.withPoll_setBlock (b : Word × Word) :
    (s.withPoll e p vars).setBlock b = (s.setBlock b).withPoll e p vars := rfl
@[simp] theorem State.withPoll_seedPwd :
    (s.withPoll e p vars).seedPwd = s.seedPwd.withPoll e p vars := by
  simp [State.seedPwd]
@[simp] theorem State.withPoll_seedKey (count : Nat) :
    (s.withPoll e p vars).seedKey count = (s.seedKey count).withPoll e p vars := by
  simp [State.seedKey]
@[simp] theorem State.withPoll_scramble (count : Nat) :
    (s.withPoll e p vars).scramble count = (s.scramble count).withPoll e p vars := by
  simp [State.scramble]
@[simp] theorem State.withPoll_deriveKeyWord (j : Fin 4) :
    (s.withPoll e p vars).deriveKeyWord j = (s.deriveKeyWord j).withPoll e p vars := by
  simp [State.deriveKeyWord]
@[simp] theorem State.withPoll_completeOk :
    (s.withPoll e p vars).completeOk = s.completeOk.withPoll .idle p vars := rfl

theorem effectOf_withPoll (i : Instr) : (s.withPoll e p vars).effectOf i = (s.effectOf i).withPoll e p vars := by
  cases i <;> simp [State.effectOf]

end

/-! So the complete step comes out the same. -/

theorem exec_withPoll {i : Instr} {s u : State} (h : exec i s = .next u) (e : Engine) (p : Nat)
    (vars : List (Nat × Word)) : exec i (s.withPoll e p vars) = .next (u.withPoll .idle p vars) := by
  cases hrange : i.argInRange with
  | true =>
    cases (exec_inRange i s hrange).symm.trans h
    rw [exec_inRange i _ hrange, effectOf_withPoll, State.withPoll_completeOk]
  | false =>
    cases (exec_outOfRange i s hrange).symm.trans h
    exact exec_outOfRange i _ hrange

theorem complete_withPoll {s u : State} (h : complete s = .next u) (e : Engine) (p : Nat)
    (vars : List (Nat × Word)) : complete (s.withPoll e p vars) = .next (u.withPoll .idle p vars) := by
  cases hd : decode s.cmd with
  | instr i =>
    rw [complete_of_decode hd] at h
    exact (complete_of_decode (s := s.withPoll e p vars) hd).trans (exec_withPoll h e p vars)
  | reject r =>
    cases (complete_of_reject hd).symm.trans h
    exact complete_of_reject hd

/-- The complete step leaves an idle engine with DONE, and takes no reset. -/
theorem complete_done {s u : State} (h : complete s = .next u) :
    u.engine = .idle ∧ statusDone u.status = true ∧ statusBusy u.status = false ∧ u.resetIn = s.resetIn := by
  rcases complete_cases s with ⟨e, he⟩ | ⟨v, hv, hsame⟩
  · cases he.symm.trans h
    simp
  · cases hv.symm.trans h
    simp [hsame.resetIn]

/-! The two statements of `wait` (R67). -/

/-- The `wait` of R67 stands at place `p` of the program. -/
abbrev WaitAt (prog : List HostStmt) (p : Nat) : Prop :=
  prog[p]? = some (.rd .status varS) ∧ prog[p + 1]? = some (.branch (.bitSet (.var varS) 0) (-1))

/-- STATUS reads truly, busy or not (R21, R123). -/
theorem hostRead_status (s : State) : hostRead (regOffset .status) s = (s.read .status, s) := by
  rw [← readOffset_regOffset]
  simp [hostRead, regOffset]

theorem runStmt_pollRead (s : State) (e : Engine) (p : Nat) (vars : List (Nat × Word)) :
    runStmt (.rd .status varS) (s.withPoll e p vars) =
      .next (s.withPoll e (p + 1) (varSet vars varS (s.read .status))) := by
  rw [runStmt, doRead, hostRead_status, State.withPoll_read]
  rfl

theorem runStmt_pollBranch (s : State) (e : Engine) (p : Nat) (vars : List (Nat × Word)) :
    runStmt (.branch (.bitSet (.var varS) 0) (-1)) (s.withPoll e (p + 1) vars) =
      .next (s.withPoll e (if (varGet vars varS).getLsbD 0 then p else p + 2) vars) := by
  have hjump : (s.withPoll e (p + 1) vars).hostJump (-1) = s.withPoll e p vars :=
    congrArg (s.withPoll e · vars) (by simp : Int.toNat ((p + 1 : Nat) + (-1)) = p)
  rw [runStmt, hjump, State.withPoll_hostVars]
  change Host.Outcome.next (if (varGet vars varS).getLsbD 0 then _ else _) = _
  split <;> rfl

/-! From one state of the poll to the next. -/

/-- Some run from `s` ends in `t`. -/
def Reaches (s t : State) : Prop := ∃ k, Sys2Proof.core.run k s = .next t

theorem Reaches.refl (s : State) : Reaches s s := ⟨0, rfl⟩

theorem Reaches.head {s t u : State} (h : step s = .next t) (htu : Reaches t u) : Reaches s u := by
  obtain ⟨k, hk⟩ := htu
  exact ⟨k + 1, (run_succ k h).trans hk⟩

/-- What the host's step makes of the engine: idle as it was, or with one less of the latency (log entry 1). -/
inductive HostTurn : Engine → Engine → Prop
  | idle : HostTurn .idle .idle
  | busy (w : Word) (n : Nat) : HostTurn (.busy w (n + 1)) (.busy w n)

theorem step_withPoll_of_hostTurn {s : State} {st : HostStmt} {p : Nat} {e e' : Engine}
    (vars : List (Nat × Word)) (hr : s.resetIn = false) (hst : s.hostProg[p]? = some st)
    (ht : HostTurn e e') : step (s.withPoll e p vars) = runStmt st (s.withPoll e' p vars) := by
  obtain ⟨hidle, hbusy⟩ := stepPerformsTheHostStatement (s.withPoll e p vars) st hr hst
  cases ht with
  | idle => exact hidle rfl
  | busy w n => exact hbusy w n rfl

section
variable {s t : State} {p : Nat} {e e' : Engine} {vars : List (Nat × Word)}

/-- The poll's read, then on (R67). -/
theorem Reaches.pollRead (hr : s.resetIn = false) (hwait : WaitAt s.hostProg p) (ht : HostTurn e e')
    (h : Reaches (s.withPoll e' (p + 1) (varSet vars varS (s.read .status))) t) :
    Reaches (s.withPoll e p vars) t :=
  .head ((step_withPoll_of_hostTurn vars hr hwait.1 ht).trans (runStmt_pollRead ..)) h

/-- The poll's branch, back while `$s` has BUSY set, then on (R67). -/
theorem Reaches.pollBranch (hr : s.resetIn = false) (hwait : WaitAt s.hostProg p) (ht : HostTurn e e')
    (h : Reaches (s.withPoll e' (if (varGet vars varS).getLsbD 0 then p else p + 2) vars) t) :
    Reaches (s.withPoll e (p + 1) vars) t :=
  .head ((step_withPoll_of_hostTurn vars hr hwait.2 ht).trans (runStmt_pollBranch ..)) h

/-- The complete step, wherever in the poll it comes, then on (R122). -/
theorem Reaches.pollComplete {u : State} {w : Word} (hr : s.resetIn = false) (hu : complete s = .next u)
    (h : Reaches (u.withPoll .idle p vars) t) : Reaches (s.withPoll (.busy w 0) p vars) t := by
  have hstep : step (s.withPoll (.busy w 0) p vars) = complete (s.withPoll (.busy w 0) p vars) :=
    step_of_no_reset hr
  exact .head (hstep.trans (complete_withPoll hu ..)) h

/-- After the poll's read `$s` has the BUSY of STATUS. -/
theorem pollRead_busy (s : State) (hwf : varsWf vars = true) :
    (varGet (varSet vars varS (s.read .status)) varS).getLsbD 0 = statusBusy s.status := by
  rw [varGet_varSet_same _ _ _ hwf, (statusReadAndWrite s).1.1]

/-- With the engine idle the poll ends the next time round. -/
theorem Reaches.idlePoll (hr : s.resetIn = false) (hwait : WaitAt s.hostProg p)
    (hbusy : statusBusy s.status = false) (hwf : varsWf vars = true) :
    Reaches (s.withPoll .idle p vars) (s.withPoll .idle (p + 2) (varSet vars varS (s.read .status))) := by
  refine .pollRead hr hwait .idle (.pollBranch hr hwait .idle ?_)
  rw [pollRead_busy s hwf, hbusy]
  exact .refl _

end

/-- By induction on the latency left, one round of the poll at a time. A complete step that comes between the
read and the branch leaves BUSY set in `$s`, so the poll goes round once more. -/
theorem wait_ends {s u : State} {w : Word} {p : Nat} (hr : s.resetIn = false) (hwait : WaitAt s.hostProg p)
    (hbusy : statusBusy s.status = true) (hu : complete s = .next u) (n : Nat) {vars : List (Nat × Word)}
    (hwf : varsWf vars = true) :
    ∃ vars', varsWf vars' = true ∧ Reaches (s.withPoll (.busy w n) p vars)
      (u.withPoll .idle (p + 2) (varSet vars' varS (u.read .status))) := by
  obtain ⟨-, -, hidle, hur⟩ := complete_done hu
  obtain ⟨_, hu', hprog, -, -⟩ := complete_sameHost (s := s)
  cases hu'.symm.trans hu
  have hwaitU : WaitAt u.hostProg p := hprog ▸ hwait
  have hrU : u.resetIn = false := hur.trans hr
  induction n using Nat.twoStepInduction generalizing vars with
  | zero => exact ⟨vars, hwf, .pollComplete hr hu (.idlePoll hrU hwaitU hidle hwf)⟩
  | one =>
    have hwf' := varsWf_varSet vars varS (s.read .status) hwf
    refine ⟨_, hwf', .pollRead hr hwait (.busy w 0) (.pollComplete hr hu (.pollBranch hrU hwaitU .idle ?_))⟩
    rw [pollRead_busy s hwf, hbusy]
    exact .idlePoll hrU hwaitU hidle hwf'
  | more n ih _ =>
    obtain ⟨vars', hwf', hend⟩ := ih (varsWf_varSet vars varS (s.read .status) hwf)
    refine ⟨vars', hwf', .pollRead hr hwait (.busy w _) (.pollBranch hr hwait (.busy w _) ?_)⟩
    rw [pollRead_busy s hwf, hbusy]
    exact hend

end Sys2Proof.Machine

open Sys2Proof Sys2Proof.Machine

/-- Settles O57: the poll ends in the state the complete step leaves, with the host past the `wait`. -/
theorem waitEndsWithTheCommandDone : Obligations.WaitEndsWithTheCommandDone := by
  intro s w n hlegal hr he hread hbranch
  have hbusy : statusBusy s.status = true := by rw [hlegal.1.1, he, Engine.isBusy]
  obtain ⟨u, hu, -⟩ := complete_sameHost (s := s)
  obtain ⟨-, hdone, hidle, -⟩ := complete_done hu
  obtain ⟨vars', hwf', k, hk⟩ := wait_ends (w := w) hr ⟨hread, hbranch⟩ hbusy hu n hlegal.vars_canonical
  rw [State.withPoll_of_engine he] at hk
  refine ⟨u, k, _, hu, hk, rfl, rfl, fun r => State.withPoll_read .., ?_, hdone, hidle⟩
  rw [State.withPoll_read, State.withPoll_hostVars, varGet_varSet_same _ _ _ hwf']

end

section
/-! `setuid` (R69): two register writes, and the bytes they leave (R24). -/

namespace Sys2Proof.Machine

/-- With the engine idle, a step at a `wr` is the register's write, and the host goes on (R65). -/
theorem step_of_wr {s : State} {r : Reg} {e : Expr} (hr : s.resetIn = false) (he : s.engine = .idle)
    (hbusy : statusBusy s.status = false) (hst : s.hostProg[s.hostPos]? = some (.wr r e)) :
    step s = .next (s.write r (evalExpr s.hostVars e)).hostNext := by
  rw [(stepPerformsTheHostStatement s _ hr hst).1 he]
  exact doWrite_of_hostWrite_next (hostWrite_regOffset_idle r _ hbusy)

/-- The four bytes of a packed word (R73, R74). -/
theorem byteOf_packLE (b0 b1 b2 b3 : Byte) :
    byteOf (packLE b0 b1 b2 b3) 0 = b0 ∧ byteOf (packLE b0 b1 b2 b3) 1 = b1 ∧
      byteOf (packLE b0 b1 b2 b3) 2 = b2 ∧ byteOf (packLE b0 b1 b2 b3) 3 = b3 := by
  have byte := extractLsb'_packLE ([b0, b1, b2, b3].getD · 0#8)
  exact ⟨byte 0, byte 1, byte 2, byte 3⟩

/-- The bytes of a word that UID1 stores are its lower three (R25). -/
theorem byteOf_setWidth_uid1 (w : Word) {k : Nat} (hk : k < 3) :
    byteOf ((w.setWidth 24).setWidth 32) k = byteOf w k := by
  apply BitVec.eq_of_getLsbD_eq
  intro i hi
  have hstored : 8 * k + i < 24 := by omega
  have hword : 8 * k + i < 32 := by omega
  simp [byteOf, hi, hstored, hword]

/-- UID registers made of seven bytes hold those bytes (R24). -/
theorem uidBytes_packLE (b : Vector Byte 7) :
    uidBytes (packLE b[0] b[1] b[2] b[3]) ((packLE b[4] b[5] b[6] 0#8).setWidth 24) = b := by
  have h : uidBytes (packLE b[0] b[1] b[2] b[3]) ((packLE b[4] b[5] b[6] 0#8).setWidth 24) =
      #v[b[0], b[1], b[2], b[3], b[4], b[5], b[6]] := by
    simp [uidBytes, byteOf_packLE, byteOf_setWidth_uid1]
  rw [h]
  ext k hk
  interval_cases k <;> rfl

end Sys2Proof.Machine

open Sys2Proof Sys2Proof.Machine Sys2Proof.Claims

/-- Settles O59: the two writes place the bytes, and no other register sees them. -/
theorem setuidPlacesTheUid : Obligations.SetuidPlacesTheUid := by
  intro s b hr he hbusy hst0 hst1
  have hstep0 := step_of_wr hr he hbusy hst0
  have hstep1 := step_of_wr (s := (s.write .uid0 (packLE b[0] b[1] b[2] b[3])).hostNext) hr he hbusy hst1
  refine ⟨_, (run_succ 1 hstep0).trans (run_succ 0 hstep1), uidBytes_packLE b, rfl, he, rfl, ?_⟩
  intro r _ hout
  simp only [List.mem_cons, List.not_mem_nil, or_false, not_or] at hout
  obtain ⟨h0, h1⟩ := hout
  rw [State.hostNext_read, read_write_other _ _ h1 (by simp), State.hostNext_read,
    read_write_other _ _ h0 (by simp)]

end

section
/-! What encrypts decrypts back (R98), and a word reversed twice (R75): the Page Codec on values (R70, R71). -/

namespace Sys2Proof.Machine

/-- Reversing the bytes twice gives the word back (R75). -/
theorem revb_revb (w : Word) : revb (revb w) = w := by
  have swapped (k : Fin 4) : byteOf (revb w) k.val = byteOf w (3 - k.val) :=
    extractLsb'_packLE (fun j => byteOf w (3 - j)) k
  calc revb (revb w)
      = packLE (byteOf (revb w) 3) (byteOf (revb w) 2) (byteOf (revb w) 1) (byteOf (revb w) 0) := rfl
    _ = packLE (byteOf w 0) (byteOf w 1) (byteOf w 2) (byteOf w 3) :=
        congr (congr (congr (congrArg packLE (swapped 3)) (swapped 2)) (swapped 1)) (swapped 0)
    _ = w := packLE_byteOf w

/-- A decrypt round undoes an encrypt round: it takes back v1, then v0, then the sum (R94, R95). -/
theorem teaDecRound_teaEncRound (k : Vector Word 4) :
    Function.LeftInverse (teaDecRound k) (teaEncRound k) := by
  intro t
  simp only [teaDecRound, teaEncRound, BitVec.add_sub_cancel]

/-- The sum after `n` encrypt rounds (R94). -/
theorem teaEncRound_iterate_sum (k : Vector Word 4) (n : Nat) (t : TeaState) :
    ((teaEncRound k)^[n] t).sum = t.sum + BitVec.ofNat 32 n * teaDelta := by
  induction n generalizing t with
  | zero => simp
  | succ n ih =>
    rw [Function.iterate_succ_apply, ih, BitVec.ofNat_add, BitVec.add_mul, BitVec.one_mul, teaEncRound,
      BitVec.add_assoc, BitVec.add_comm teaDelta]

/-- Decrypt starts from the sum encrypt ends with, so its rounds undo encrypt's in turn (R98). -/
theorem teaDecrypt_teaEncrypt (k : Vector Word 4) (x y : Word) :
    teaDecrypt k (teaEncrypt k x y).1 (teaEncrypt k x y).2 = (x, y) := by
  have hsum : ((teaEncRound k)^[32] ⟨0#32, x, y⟩).sum = 0xC6EF3720#32 := by
    rw [teaEncRound_iterate_sum, BitVec.zero_add]
    decide
  have hundo : (teaDecRound k)^[32] ((teaEncRound k)^[32] ⟨0#32, x, y⟩) = ⟨0#32, x, y⟩ :=
    (teaDecRound_teaEncRound k).iterate 32 _
  unfold teaDecrypt teaEncrypt
  rw [← hsum]
  simp only [hundo]

end Sys2Proof.Machine

open Sys2Proof.Machine

/-- Settles O60: the reversals cancel, and decrypt undoes encrypt. -/
theorem pageCodecRoundTrip : Obligations.PageCodecRoundTrip := by
  intro raw id
  simp only [revb_revb, teaDecrypt_teaEncrypt, and_true]
  exact Vector.map_id' raw

end

section
/-! The opcode map as command words, and words of it read back (R57, R60). -/

namespace Sys2Proof

/-- A command word is its opcode with the immediate above it (R57, R60). -/
theorem assemble_eq_or (op : Byte) {n : Nat} (h : n ≤ 31) :
    assemble op n = op.setWidth 32 ||| BitVec.ofNat 32 n <<< 8 := by
  apply BitVec.eq_of_getLsbD_eq
  intro i hi
  simp only [assemble, BitVec.getLsbD_append, BitVec.getLsbD_or, BitVec.getLsbD_shiftLeft,
    BitVec.getLsbD_setWidth, BitVec.getLsbD_ofNat, hi]
  by_cases hop : i < 8
  · simp [hop]
  have hopHigh : op.getLsbD i = false := BitVec.getLsbD_of_ge op i (by omega)
  have hshift : i - 8 < 32 := by omega
  by_cases himm : i - 8 < 5
  · simp [hop, hopHigh, hshift, himm]
  · have hpow : 2 ^ 5 ≤ 2 ^ (i - 8) := Nat.pow_le_pow_right (by omega) (by omega)
    have himmHigh : n.testBit (i - 8) = false := Nat.testBit_lt_two_pow (by omega)
    simp [hop, hopHigh, himm, himmHigh]

end Sys2Proof

open Sys2Proof Sys2Proof.Claims

/-- Settles O3: the words without an immediate as they stand, the others by their fields. -/
theorem commandWordsOfTheOpcodeMap : Obligations.CommandWordsOfTheOpcodeMap :=
  ⟨rfl, rfl, fun _ => assemble_eq_or _, fun _ => assemble_eq_or _, rfl, rfl, fun _ => assemble_eq_or _,
    fun _ => assemble_eq_or _, fun _ => assemble_eq_or _, rfl, rfl, rfl, rfl⟩

/-- Settles O4, by running the decoder on each word. -/
theorem specWordsDecode : Obligations.SpecWordsDecode := by
  refine ⟨?_, ?_, ?_, ?_, ?_, ?_, ?_, ?_⟩ <;> decide

end

section
/-! The bit utilities on bits, bytes and numbers (R72 to R75). -/

namespace Sys2Proof.Machine

/-- Bit `j` of a rotation is the bit `amount` places above it, round the word (R72). -/
theorem getLsbD_rotr (v : Word) (amount : Byte) {j : Nat} (hj : j < 32) :
    (rotr v amount).getLsbD j = v.getLsbD ((j + amount.toNat % 32) % 32) := by
  rw [rotr_eq_rotateRight, BitVec.getLsbD_rotateRight]
  have hlt : amount.toNat % 32 < 32 := Nat.mod_lt _ (by decide)
  generalize amount.toNat % 32 = a at hlt ⊢
  by_cases hwrap : j < 32 - a
  · have hsrc : (j + a) % 32 = a + j := by omega
    simp [hwrap, hsrc]
  · have hsrc : (j + a) % 32 = j - (32 - a) := by omega
    simp [hwrap, hsrc, hj]

theorem rotr_of_mod_eq_zero (v : Word) {amount : Byte} (h : amount.toNat % 32 = 0) : rotr v amount = v :=
  if_pos h

/-- Rotating right by 31 of the 32 places rotates left by one (R77). -/
theorem rotr_255 (v : Word) : rotr v 255#8 = v.rotateLeft 1 := by
  rw [rotr_eq_rotateRight, BitVec.rotateRight_def, BitVec.rotateLeft_def]
  exact BitVec.or_comm _ _

/-- A word with all bits alike is a fixed point of every rotation (R77). -/
theorem rotr_of_bits_alike {v : Word} {b : Bool} (amount : Byte) (h : ∀ j, j < 32 → v.getLsbD j = b) :
    rotr v amount = v := by
  apply BitVec.eq_of_getLsbD_eq
  intro j hj
  rw [getLsbD_rotr v amount hj, h _ (Nat.mod_lt _ (by decide)), h j hj]

/-- The value of a packed word: byte `k` weighs 2^(8k) (R73). -/
theorem toNat_packLE (b0 b1 b2 b3 : Byte) :
    (packLE b0 b1 b2 b3).toNat = b0.toNat + 2 ^ 8 * b1.toNat + 2 ^ 16 * b2.toNat + 2 ^ 24 * b3.toNat := by
  have appendByte {n : Nat} (hi : BitVec n) (lo : Byte) : (hi ++ lo).toNat = hi.toNat * 2 ^ 8 + lo.toNat := by
    rw [BitVec.toNat_append, ← Nat.shiftLeft_add_eq_or_of_lt lo.isLt, Nat.shiftLeft_eq]
  rw [packLE_eq_append, appendByte, appendByte, appendByte]
  omega

theorem unpackLE_packLE (b0 b1 b2 b3 : Byte) : unpackLE (packLE b0 b1 b2 b3) = #v[b0, b1, b2, b3] := by
  simp only [unpackLE, byteOf_packLE]

/-- The bytes of the reversed word, in the other order (R75). -/
theorem extractLsb'_revb (v : Word) (k : Fin 4) :
    (revb v).extractLsb' (8 * k.val) 8 = v.extractLsb' (8 * (3 - k.val)) 8 :=
  extractLsb'_packLE (fun j => byteOf v (3 - j)) k

/-- A byte palindrome is a fixed point (R80). -/
theorem revb_of_palindrome {v : Word} (houter : byteOf v 0 = byteOf v 3) (hinner : byteOf v 1 = byteOf v 2) :
    revb v = v := by
  calc revb v
      = packLE (byteOf v 0) (byteOf v 1) (byteOf v 2) (byteOf v 3) := by
        rw [revb, ← houter, ← hinner]
    _ = v := packLE_byteOf v

end Sys2Proof.Machine

open Sys2Proof Sys2Proof.Machine

/-- Settles O7: the bits of a rotation, and the amounts that are 0 modulo 32. -/
theorem rotateRightBits : Obligations.RotateRightBits :=
  fun v amount => ⟨fun _ => getLsbD_rotr v amount, rotr_of_mod_eq_zero v rfl, rotr_of_mod_eq_zero v rfl⟩

/-- Settles O8: the number a packed word is, and its bytes taken apart and put together. -/
theorem packAndUnpackLittleEndian : Obligations.PackAndUnpackLittleEndian :=
  ⟨fun b0 b1 b2 b3 => ⟨toNat_packLE b0 b1 b2 b3, unpackLE_packLE b0 b1 b2 b3⟩, packLE_byteOf⟩

/-- Settles O9, by the bytes of the reversed word. -/
theorem reverseBytesSwapsAndUndoes : Obligations.ReverseBytesSwapsAndUndoes :=
  fun v => ⟨fun k hk => extractLsb'_revb v ⟨k, hk⟩, revb_revb v⟩

end

section
/-! What every statement about one command shares: the end without error with its frame, and the errors of its
opcode (R23, R61, R63, R102). -/

namespace Sys2Proof.Machine

open Sys2Proof.Claims

theorem completeOk_read (s : State) {r : Reg} (h : r ≠ .status) : s.completeOk.read r = s.read r := by
  cases r with
  | status => exact absurd rfl h
  | _ => rfl

theorem setResult_read (s : State) (v : Word) {r : Reg} (h : r ≠ .result) :
    (s.setResult v).read r = s.read r := by
  cases r with
  | result => exact absurd rfl h
  | _ => rfl

/-- A new seed buffer shows in the seed registers only (R32). -/
theorem setSeed_read (s : State) (buf : SeedBuffer) {r : Reg} (h : ∀ i, r ≠ .seed i) :
    (s.setSeed buf).read r = s.read r := by
  cases r with
  | seed i => exact absurd rfl (h i)
  | _ => rfl

/-- A command that changes only the registers `outs` ends without error and keeps the rest (R23, R37). -/
theorem completeOk_endsOk {outs : List Reg} {s u : State} (h : s.SameButOutputs u)
    (hregs : ∀ r, r ∉ outs → u.read r = s.read r) : EndsOk outs s u.completeOk := by
  refine ⟨by simp [StatusIs, h.status], rfl, fun r hstatus hr => ?_, ?_⟩
  · rw [completeOk_read u hstatus, hregs r hr]
  · exact ⟨h.hostProg, h.hostPos, h.hostVars, h.resetIn, h.draws⟩

theorem setResult_endsOk (s : State) (v : Word) : EndsOk [.result] s (s.setResult v).completeOk :=
  completeOk_endsOk (setResult_sameButOutputs s v) fun _ hr => setResult_read s v (by simpa using hr)

theorem mem_seedRegs (i : Fin 8) : Reg.seed i ∈ seedRegs := by
  revert i; decide

theorem setSeed_endsOk (s : State) (buf : SeedBuffer) : EndsOk seedRegs s (s.setSeed buf).completeOk :=
  completeOk_endsOk (setSeed_sameButOutputs s buf) fun _ hr =>
    setSeed_read s buf fun i hi => hr (hi ▸ mem_seedRegs i)

/-- A word that R62 lists completes with ILLEGAL_COMMAND (R61, R102). -/
theorem illegalWord_endsError {s : State} {w : Word} (h : Ready s w) (hw : IllegalWord w) :
    ∃ t, step s = .next t ∧ EndsError 2 s t :=
  (illegalWordsCompleteWithIllegalCommand w).2 hw s h

theorem illegalWithExtraBits {op : Byte} (hop : op.toNat ∈ plainOps) : IllegalWithExtraBits op := by
  rintro s w h rfl (himm | hrsv)
  · exact illegalWord_endsError h (.inr (.inr ⟨hop, himm⟩))
  · exact illegalWord_endsError h (.inl hrsv)

theorem illegalWithReservedBits (op : Byte) : IllegalWithReservedBits op :=
  fun _ _ h _ hrsv => illegalWord_endsError h (.inl hrsv)

/-- Past the largest argument a command only reports INVALID_ARGUMENT (R63, R100). -/
theorem invalidAbove {mk : Nat → Instr} {max : Nat} (h : ∀ n, max < n → (mk n).argInRange = false) :
    InvalidAbove mk max :=
  fun n s hn => ⟨_, exec_outOfRange (mk n) s (h n hn), raise_endsError s .invalidArgument⟩

end Sys2Proof.Machine
end

section
/-! The bit-utility commands (40_bit_utilities.md section 2): each has its effect, its frame and its errors from
the lemmas above, and its corner cases from those of its function. -/

namespace Sys2Proof.Machine

/-- The rotation amount is OPB modulo 256 (R77). -/
theorem toNat_extractLsb'_low (w : Word) : (w.extractLsb' 0 8).toNat = w.toNat % 256 :=
  BitVec.extractLsb'_toNat 0 8 w

/-- Byte 255 is the amount of the operands whose low byte is 255 (R77). -/
theorem extractLsb'_low_eq_255 {w : Word} (h : w.toNat % 256 = 255) : w.extractLsb' 0 8 = 255#8 :=
  BitVec.eq_of_toNat_eq ((toNat_extractLsb'_low w).trans h)

/-- Zero and all ones have all bits alike (R77). -/
theorem rotr_zero_or_allOnes {v : Word} (amount : Byte) (h : v = 0x00000000#32 ∨ v = 0xFFFFFFFF#32) :
    rotr v amount = v := by
  rcases h with rfl | rfl
  · exact rotr_of_bits_alike amount (b := false) fun _ _ => BitVec.getLsbD_zero
  · exact rotr_of_bits_alike amount (b := true) (by decide)

/-- R78's example: the four bytes from byte 1 lie across the first two seed words. -/
theorem seedWord_one_example {buf : SeedBuffer} (h0 : seedWord buf 0 = 0x04030201#32)
    (h4 : seedWord buf 4 = 0x08070605#32) : seedWord buf 1 = 0x05040302#32 := by
  have lowByte (k : Fin 4) : seedByte buf (0 + k.val) = (0x04030201#32).extractLsb' (8 * k.val) 8 := by
    rw [← extractLsb'_seedWord, h0]
  have byte4 : seedByte buf 4 = (0x08070605#32).extractLsb' 0 8 := by
    rw [← h4]
    exact (extractLsb'_seedWord buf 4 0).symm
  calc seedWord buf 1
      = packLE ((0x04030201#32).extractLsb' 8 8) ((0x04030201#32).extractLsb' 16 8)
          ((0x04030201#32).extractLsb' 24 8) ((0x08070605#32).extractLsb' 0 8) :=
        congr (congr (congr (congrArg packLE (lowByte 1)) (lowByte 2)) (lowByte 3)) byte4
    _ = 0x05040302#32 := by decide

/-- R79's example: four bytes written from byte 2 lie across the first two seed words. -/
theorem seedWord_overwrite_example :
    seedWord (overwrite (Vector.replicate 32 0#8) 2 (unpackLE 0xDDCCBBAA#32)) 0 = 0xBBAA0000#32 ∧
    seedWord (overwrite (Vector.replicate 32 0#8) 2 (unpackLE 0xDDCCBBAA#32)) 4 = 0x0000DDCC#32 := by
  decide

end Sys2Proof.Machine

open Sys2Proof Sys2Proof.Machine Sys2Proof.Claims

/-- Settles O17: NOP has no effect to frame, and its example reads reset's own registers. -/
theorem nopOnlyCompletes : Obligations.NopOnlyCompletes := by
  refine ⟨rfl, fun s => ?effect, illegalWithExtraBits (by decide), ⟨rfl, rfl⟩, ?fromReset⟩
  case effect => exact ⟨_, exec_nop s, completeOk_endsOk (.refl s) fun _ _ => rfl⟩
  case fromReset =>
    have hnop : decode (State.reset.accept 0#32).cmd = .instr .nop := encodeThenDecode .nop rfl
    refine ⟨_, (complete_of_decode hnop).trans (exec_nop _), by decide, fun r hr => ?_⟩
    rcases eq_or_ne r .cmd with rfl | hcmd
    · rfl
    · calc (State.reset.accept 0#32).completeOk.read r
          = (State.reset.write .cmd 0#32).read r := completeOk_read _ hr
        _ = State.reset.read r := read_write_other State.reset 0#32 hcmd fun _ => hr
        _ = 0#32 := resetValues.1 r

/-- Settles O18: the corner cases are facts about `rotr` and the low byte of OPB. -/
theorem rotrRotatesOpaByOpb : Obligations.RotrRotatesOpaByOpb := by
  refine ⟨rfl, fun s => ⟨_, exec_rotr s, setResult_endsOk s _, rfl, ?multiples, ?by255, ?highIgnored,
    rotr_zero_or_allOnes _, ?specExample⟩, illegalWithExtraBits (by decide)⟩
  case multiples => exact fun h => rotr_of_mod_eq_zero _ (by rwa [toNat_extractLsb'_low])
  case by255 =>
    intro h
    exact (congrArg (rotr s.opa) (extractLsb'_low_eq_255 h)).trans (rotr_255 s.opa)
  case highIgnored =>
    intro (h : s.opb = 0x120#32)
    exact rotr_of_mod_eq_zero _ (by rw [h]; rfl)
  case specExample =>
    intro (ha : s.opa = 0x12345678#32) (hb : s.opb = 4#32)
    simp only [State.read, State.completeOk_result, State.setResult_result, ha, hb]
    decide

/-- Settles O19: the result is a seed word, and SEEDi is the seed word of an aligned offset. -/
theorem packlePacksFourSeedBytes : Obligations.PacklePacksFourSeedBytes := by
  refine ⟨fun _ => assemble_eq_or _, fun off s h => ⟨_, exec_packle s h, setResult_endsOk s _, rfl, ?aligned,
    ?specExample⟩, invalidAbove ?range, illegalWithReservedBits _⟩
  case aligned =>
    rintro i rfl
    rfl
  case specExample =>
    rintro rfl h0 h1
    exact seedWord_one_example h0 h1
  case range => exact fun n hn => decide_eq_false (by omega)

/-- Settles O20: the bytes are those of an overwritten buffer, and the seed word written is OPA. -/
theorem unpackleWritesFourSeedBytes : Obligations.UnpackleWritesFourSeedBytes := by
  refine ⟨fun _ => assemble_eq_or _, fun off s h => ⟨_, exec_unpackle s h, setSeed_endsOk s _, ?written, ?kept,
    ?packed, ?specExample⟩, invalidAbove ?range, illegalWithReservedBits _⟩
  case written => exact fun k => seedByte_overwrite_unpackLE s.seed s.opa k h
  case kept => exact fun j hj => seedByte_overwrite_out s.seed off (unpackLE s.opa) j hj
  case packed => exact ⟨_, exec_packle _ h, seedWord_overwrite_same s.seed s.opa h⟩
  case specExample =>
    intro hoff hseed (hopa : s.opa = 0xDDCCBBAA#32)
    subst hoff
    simp only [State.read, State.completeOk_seed, State.setSeed_seed, hseed, hopa]
    exact seedWord_overwrite_example
  case range => exact fun n hn => decide_eq_false (by omega)

/-- Settles O21: palindromes and the second reversal are facts about `revb`. -/
theorem revbReversesOpa : Obligations.RevbReversesOpa := by
  refine ⟨rfl, fun s => ⟨_, exec_revb s, setResult_endsOk s _, rfl, revb_of_palindrome, ?twice, ?specExample⟩,
    illegalWithExtraBits (by decide)⟩
  case twice =>
    intro u v (hopa : u.opa = revb s.opa) hv
    cases (exec_revb u).symm.trans hv
    exact (congrArg revb hopa).trans (revb_revb s.opa)
  case specExample =>
    intro (hopa : s.opa = 0x12345678#32)
    exact (congrArg revb hopa).trans (by decide)

end

section
/-! The mixer (41_uid_mixer.md): one turn of its loop, and its value on the first words of the buffer. -/

namespace Sys2Proof.Machine

/-- One turn of the mixer's loop, its rotations as rotations of a word (R72, R81). -/
theorem mixStep_eq_rotateRight (b acc : Word) :
    mixStep b acc = b + acc.rotateRight 25 + acc.rotateRight 10 - acc := by
  rw [mixStep, rotr_eq_rotateRight, rotr_eq_rotateRight]
  rfl

/-- From the accumulator 0 a turn takes the word as it is (R82). -/
theorem mixStep_zero (b : Word) : mixStep b 0#32 = b := by
  have rotr_zero (amount : Byte) : rotr 0#32 amount = 0#32 := rotr_zero_or_allOnes amount (.inl rfl)
  simp [mixStep, rotr_zero]

theorem mix_one (buf : SeedBuffer) : mix buf 1 = seedWord buf 0 := by
  rw [mix_succ, mix_zero, mixStep_zero]

theorem mix_two {buf : SeedBuffer} {a b : Word} (h0 : seedWord buf 0 = a) (h4 : seedWord buf 4 = b) :
    mix buf 2 = mixStep b a := by
  subst h0 h4
  rw [mix_succ, mix_one]

theorem seedWord_zeroBuffer (off : Nat) : seedWord (Vector.replicate 32 0#8) off = 0#32 := by
  have seedByte_zero (i : Nat) : seedByte (Vector.replicate 32 0#8) i = 0#8 := by simp [seedByte]
  simp only [seedWord, seedByte_zero]
  rfl

/-- The zero buffer mixes to 0, whatever the count (R82). -/
theorem mix_zeroBuffer (n : Nat) : mix (Vector.replicate 32 0#8) n = 0#32 := by
  induction n with
  | zero => exact mix_zero _
  | succ n ih => rw [mix_succ, ih, mixStep_zero, seedWord_zeroBuffer]

/-- A byte written at `4 * n` or above does not reach the mix of `n` words (R84). -/
theorem mix_overwrite_above (buf : SeedBuffer) {n lo len : Nat} (bs : Vector Byte len) (h : 4 * n ≤ lo) :
    mix (overwrite buf lo bs) n = mix buf n :=
  mix_eq_of_bytes _ _ n fun j _ => seedByte_overwrite_out buf lo bs j (by omega)

end Sys2Proof.Machine

open Sys2Proof Sys2Proof.Machine Sys2Proof.Claims

/-- Settles O10: the mixes of the first `i` words are the accumulators, one turn apart. -/
theorem mixerFollowsItsRecurrence : Obligations.MixerFollowsItsRecurrence :=
  fun buf n _ => ⟨⟨mix buf, mix_zero buf, rfl, fun i _ => (mix_succ buf i).trans (mixStep_eq_rotateRight _ _)⟩,
    fun buf' h => mix_eq_of_bytes buf' buf n h⟩

/-- Settles O11: SEEDn is the word of the turn from `n` to `n + 1`, and later bytes are in no earlier word. -/
theorem mixerPrefixProperty : Obligations.MixerPrefixProperty :=
  fun s => ⟨fun n => mix_succ s.seed n.val, fun _ _ b hj _ => mix_overwrite_above s.seed #v[b] hj⟩

/-- Settles O22: the corner cases are mixes of no, one or two words, and MIX leaves the seed buffer to the next. -/
theorem mixFoldsTheSeedWords : Obligations.MixFoldsTheSeedWords := by
  refine ⟨fun _ => assemble_eq_or _, fun n s h => ⟨_, exec_mix s h, setResult_endsOk s _, rfl, ?noWords,
    ?zeroBuffer, ?oneWord, ?allOnes, ?again, ?specExample⟩, invalidAbove ?range, illegalWithReservedBits _⟩
  case noWords =>
    rintro rfl
    exact mix_zero s.seed
  case zeroBuffer => exact fun hseed => (congrArg (mix · n) hseed).trans (mix_zeroBuffer n)
  case oneWord =>
    rintro rfl
    exact mix_one s.seed
  case allOnes =>
    rintro rfl h0 h1
    exact (mix_two h0 h1).trans (by decide)
  case again => exact ⟨_, exec_mix _ h, rfl⟩
  case specExample =>
    rintro rfl h0 h1
    exact (mix_two h0 h1).trans (by decide)
  case range => exact fun n hn => decide_eq_false (by omega)

end

section
/-! The two seed buffers byte by byte (R85, R86): the sentinel over the UID, the UID over the pad, the pad over
what the buffer held. -/

namespace Sys2Proof.Machine

/-- Both seed functions write the UID after the pad, so the UID's bytes stand (R85, R86). -/
theorem seedByte_uidOverPad_uid (buf : SeedBuffer) {n : Nat} (pad : Vector Byte n) (uid : Vector Byte 7)
    {i : Nat} (h : i < 7) : seedByte (overwrite (overwrite buf 0 pad) 0 uid) i = uid[i] :=
  seedByte_overwrite_in _ 0 uid i (by omega) (by omega)

theorem seedByte_uidOverPad_pad (buf : SeedBuffer) {n : Nat} (pad : Vector Byte n) (uid : Vector Byte 7)
    {i : Nat} (h7 : 7 ≤ i) (hn : i < n) (h32 : i < 32) :
    seedByte (overwrite (overwrite buf 0 pad) 0 uid) i = pad[i] := by
  rw [seedByte_overwrite_out _ _ _ _ (by omega)]
  exact seedByte_overwrite_in buf 0 pad i h32 (by omega)

/-! The password seed buffer. -/

section
variable (pad : Vector Byte 32) (uid : Vector Byte 7) (buf : SeedBuffer) {i : Nat}

/-- The sentinels of the password seed buffer stand at bytes 30 and 31 only (R85). -/
theorem seedByte_seedPwd_below (h : i < 30) :
    seedByte (seedPwd pad uid buf) i = seedByte (overwrite (overwrite buf 0 pad) 0 uid) i :=
  seedByte_overwrite_out _ _ _ _ (by omega)

theorem seedByte_seedPwd_uid (h : i < 7) : seedByte (seedPwd pad uid buf) i = uid[i] := by
  rw [seedByte_seedPwd_below pad uid buf (by omega), seedByte_uidOverPad_uid buf pad uid h]

theorem seedByte_seedPwd_pad (h7 : 7 ≤ i) (h30 : i < 30) : seedByte (seedPwd pad uid buf) i = pad[i] := by
  rw [seedByte_seedPwd_below pad uid buf h30, seedByte_uidOverPad_pad buf pad uid h7 (by omega) (by omega)]

theorem seedByte_seedPwd_sentinel (h30 : 30 ≤ i) (h32 : i < 32) :
    seedByte (seedPwd pad uid buf) i = 0xAA#8 := by
  rw [seedPwd, seedByte_overwrite_in _ _ _ _ h32 (by omega)]
  obtain rfl | rfl : i = 30 ∨ i = 31 := by omega
  · rfl
  · rfl

/-- The first seed word: four UID bytes (R87). -/
theorem seedWord_seedPwd_zero : seedWord (seedPwd pad uid buf) 0 = packLE uid[0] uid[1] uid[2] uid[3] := by
  simp [seedWord, seedByte_seedPwd_uid]

/-- The second seed word: the last UID bytes and the first pad byte (R87). -/
theorem seedWord_seedPwd_four : seedWord (seedPwd pad uid buf) 4 = packLE uid[4] uid[5] uid[6] pad[7] := by
  simp [seedWord, seedByte_seedPwd_uid, seedByte_seedPwd_pad]

/-- The last seed word: the last two pad bytes and the sentinels (R87). -/
theorem seedWord_seedPwd_last :
    seedWord (seedPwd pad uid buf) 28 = packLE pad[28] pad[29] 0xAA#8 0xAA#8 := by
  simp [seedWord, seedByte_seedPwd_pad, seedByte_seedPwd_sentinel]

/-- Each of the 32 bytes is rewritten, and of the pad only bytes 7 to 29 remain (R85, R92). -/
theorem seedPwd_congr {p q : Vector Byte 32} (b c : SeedBuffer)
    (h : ∀ i : Fin 32, 7 ≤ i.val → i.val ≤ 29 → p[i] = q[i]) : seedPwd p uid b = seedPwd q uid c := by
  refine seedBuffer_ext _ _ fun i h32 => ?_
  by_cases h7 : i < 7
  · rw [seedByte_seedPwd_uid p uid b h7, seedByte_seedPwd_uid q uid c h7]
  by_cases h30 : i < 30
  · rw [seedByte_seedPwd_pad p uid b (by omega) h30, seedByte_seedPwd_pad q uid c (by omega) h30]
    have hrange : 7 ≤ i ∧ i ≤ 29 := by omega
    exact h ⟨i, h32⟩ hrange.1 hrange.2
  · rw [seedByte_seedPwd_sentinel p uid b (by omega) h32, seedByte_seedPwd_sentinel q uid c (by omega) h32]

end

/-! The key seed buffer. -/

section
variable (pad : Vector Byte 24) (uid : Vector Byte 7) (buf : SeedBuffer) {count i : Nat}

/-- The sentinel of the key seed buffer is at byte `4 * count - 1` only, and there is none for count 0 (R86). -/
theorem seedByte_seedKey_other (h : ¬(1 ≤ count ∧ i = 4 * count - 1)) :
    seedByte (seedKey pad uid count buf) i = seedByte (overwrite (overwrite buf 0 pad) 0 uid) i := by
  unfold seedKey
  split
  · exact seedByte_overwrite_out _ _ _ _ (by omega)
  · rfl

theorem seedByte_seedKey_sentinel (h : 1 ≤ count ∧ i = 4 * count - 1) (h32 : i < 32) :
    seedByte (seedKey pad uid count buf) i = 0xAA#8 := by
  obtain ⟨hcount, rfl⟩ := h
  rw [seedKey, if_pos hcount, seedByte_overwrite_in _ _ _ _ h32 (by omega)]
  simp [sentinel]

theorem seedByte_seedKey_uid (hs : ¬(1 ≤ count ∧ i = 4 * count - 1)) (h7 : i < 7) :
    seedByte (seedKey pad uid count buf) i = uid[i] := by
  rw [seedByte_seedKey_other pad uid buf hs, seedByte_uidOverPad_uid buf pad uid h7]

theorem seedByte_seedKey_pad (hs : ¬(1 ≤ count ∧ i = 4 * count - 1)) (h7 : 7 ≤ i) (h24 : i < 24) :
    seedByte (seedKey pad uid count buf) i = pad[i] := by
  rw [seedByte_seedKey_other pad uid buf hs, seedByte_uidOverPad_pad buf pad uid h7 h24 (by omega)]

/-- For the counts that SEED_KEY accepts the sentinel is below byte 24, like the pad and the UID (R86). -/
theorem seedByte_seedKey_kept (hcount : count ≤ 6) (h24 : 24 ≤ i) :
    seedByte (seedKey pad uid count buf) i = seedByte buf i := by
  rw [seedByte_seedKey_other pad uid buf (by omega), seedByte_overwrite_out _ _ _ _ (by omega),
    seedByte_overwrite_out _ _ _ _ (by omega)]

/-- The mixer reads `4 * count` bytes, all of them rewritten, and of the pad those past the UID and before the
sentinel (R89, R92). -/
theorem mix_seedKey_congr {p q : Vector Byte 24} (b c : SeedBuffer) (hcount : count ≤ 6)
    (h : ∀ i : Fin 24, 7 ≤ i.val → i.val ≤ 4 * count - 2 → p[i] = q[i]) :
    mix (seedKey p uid count b) count = mix (seedKey q uid count c) count := by
  refine mix_eq_of_bytes _ _ count fun i hi => ?_
  by_cases hs : 1 ≤ count ∧ i = 4 * count - 1
  · rw [seedByte_seedKey_sentinel p uid b hs (by omega), seedByte_seedKey_sentinel q uid c hs (by omega)]
  by_cases h7 : i < 7
  · rw [seedByte_seedKey_uid p uid b hs h7, seedByte_seedKey_uid q uid c hs h7]
  · rw [seedByte_seedKey_pad p uid b hs (by omega) (by omega),
      seedByte_seedKey_pad q uid c hs (by omega) (by omega)]
    have hrange : 7 ≤ i ∧ i ≤ 4 * count - 2 := by omega
    exact h ⟨i, by omega⟩ hrange.1 hrange.2

/-- A scramble does not depend on what the buffer held (R92). -/
theorem mix_seedKey_anyBuffer (b c : SeedBuffer) (hcount : count ≤ 6) :
    mix (seedKey pad uid count b) count = mix (seedKey pad uid count c) count :=
  mix_seedKey_congr uid b c hcount fun _ _ _ => rfl

/-- The scramble of count 1: three UID bytes and the sentinel (R89). -/
theorem mix_seedKey_one : mix (seedKey pad uid 1 buf) 1 = packLE uid[0] uid[1] uid[2] 0xAA#8 := by
  simp [mix_one, seedWord, seedByte_seedKey_uid, seedByte_seedKey_sentinel]

/-- The first seed word for count 2: four UID bytes (R88). -/
theorem seedWord_seedKey_two_zero :
    seedWord (seedKey pad uid 2 buf) 0 = packLE uid[0] uid[1] uid[2] uid[3] := by
  simp [seedWord, seedByte_seedKey_uid]

/-- The second seed word for count 2: the last UID bytes and the sentinel (R88). -/
theorem seedWord_seedKey_two_four :
    seedWord (seedKey pad uid 2 buf) 4 = packLE uid[4] uid[5] uid[6] 0xAA#8 := by
  simp [seedWord, seedByte_seedKey_uid, seedByte_seedKey_sentinel]

/-- The scramble of count 2: one turn on the second word from the first (R89). -/
theorem mix_seedKey_two :
    mix (seedKey pad uid 2 buf) 2 =
      mixStep (packLE uid[4] uid[5] uid[6] 0xAA#8) (packLE uid[0] uid[1] uid[2] uid[3]) :=
  mix_two (seedWord_seedKey_two_zero pad uid buf) (seedWord_seedKey_two_four pad uid buf)

end

end Sys2Proof.Machine

open Sys2Proof Sys2Proof.Machine

/-- Settles O12: a byte is the UID's, the pad's or a sentinel, by where it stands. -/
theorem passwordSeedBufferBytes : Obligations.PasswordSeedBufferBytes := by
  intro pad uid buf i
  rw [Fin.getElem_fin, ← seedByte_of_lt _ _ i.isLt]
  split_ifs with h7 h30
  · exact seedByte_seedPwd_uid pad uid buf h7
  · exact seedByte_seedPwd_pad pad uid buf (by omega) h30
  · exact seedByte_seedPwd_sentinel pad uid buf (by omega) i.isLt

/-- Settles O13: a byte below 24 is the sentinel, the UID's or the pad's, and no byte above is written. -/
theorem keySeedBufferBytes : Obligations.KeySeedBufferBytes := by
  refine fun pad uid buf count hcount => ⟨fun i => ?_,
    fun i h24 _ => seedByte_seedKey_kept pad uid buf hcount h24⟩
  split_ifs with hs h7
  · exact seedByte_seedKey_sentinel pad uid buf hs (by omega)
  · exact seedByte_seedKey_uid pad uid buf hs h7
  · exact seedByte_seedKey_pad pad uid buf hs (by omega) i.isLt

end

section
/-! The derivation commands on the machine (42_derivation.md section 2): the seed bytes they leave, the registers
they keep, and the UID as the only input. -/

namespace Sys2Proof.Machine

open Sys2Proof.Claims

/-- The UID's bytes are those of UID0 and UID1 (R24). -/
theorem getElem_uid (s : State) {k : Nat} (h : k < 7) : s.uid[k] = uidByte s k := by
  interval_cases k <;> rfl

/-- The UID is what UID0 and UID1 read (R24). -/
theorem uid_of_reads {s s' : State} (h0 : s'.read .uid0 = s.read .uid0) (h1 : s'.read .uid1 = s.read .uid1) :
    s'.uid = s.uid := by
  simp only [State.read] at h0 h1
  simp only [State.uid, uidBytes, h0, h1]

/-- SEED_PWD leaves the bytes of R85, the UID's read from the registers (R87). -/
theorem State.seedPwd_seedByte (s : State) (i : Fin 32) :
    seedByte s.seedPwd.seed i.val = pwdSeedByte Config.pwdPad (uidByte s) i := by
  rw [State.seedPwd_seed, seedByte_of_lt _ _ i.isLt, ← Fin.getElem_fin, passwordSeedBufferBytes, pwdSeedByte]
  split_ifs with h7
  · exact getElem_uid s h7
  · rfl
  · rfl

/-- SEED_KEY leaves the bytes of R86, the UID's read from the registers (R88). -/
theorem State.seedKey_seedByte (s : State) {count : Nat} (hcount : count ≤ 6) (i : Fin 24) :
    seedByte (s.seedKey count).seed i.val = keySeedByte Config.keyPad (uidByte s) count i := by
  rw [State.seedKey_seed, (keySeedBufferBytes _ _ _ _ hcount).1, keySeedByte]
  split_ifs with _ h7
  · rfl
  · exact getElem_uid s h7
  · rfl

/-! The registers each operation keeps. -/

theorem setPwd_read (s : State) (v : Word) {r : Reg} (h : r ≠ .pwd) : (s.setPwd v).read r = s.read r := by
  cases r with
  | pwd => exact absurd rfl h
  | _ => rfl

theorem setKey_read (s : State) (j : Fin 4) (v : Word) {r : Reg} (h : r ≠ .key j) :
    (s.setKey j v).read r = s.read r :=
  read_write_other (r := .key j) s v h (by simp)

/-- SEED6 and SEED7 are packed from the bytes that a key seed buffer keeps (R86). -/
theorem seedKey_read (s : State) {count : Nat} (hcount : count ≤ 6) {r : Reg} (h : r ∉ keySeedRegs) :
    (s.seedKey count).read r = s.read r := by
  cases r with
  | seed i =>
    have hi : 6 ≤ i.val := by revert i; decide
    have kept {k : Nat} (hk : 24 ≤ k) : seedByte (s.seedKey count).seed k = seedByte s.seed k := by
      rw [State.seedKey_seed, seedByte_seedKey_kept _ _ _ hcount hk]
    simp only [State.read, seedWord]
    rw [kept (by omega), kept (by omega), kept (by omega), kept (by omega)]
  | _ => rfl

theorem scramble_read (s : State) {count : Nat} (hcount : count ≤ 6) {r : Reg}
    (h : r ∉ Reg.result :: keySeedRegs) : (s.scramble count).read r = s.read r := by
  rw [State.scramble, setResult_read _ _ (List.ne_of_not_mem_cons h),
    seedKey_read s hcount (List.not_mem_of_not_mem_cons h)]

theorem deriveKeyWord_read (s : State) (j : Fin 4) {r : Reg} (hkey : r ≠ .key j)
    (h : r ∉ Reg.result :: keySeedRegs) : (s.deriveKeyWord j).read r = s.read r := by
  rw [State.deriveKeyWord, setKey_read _ _ _ hkey, scramble_read s (by omega) h]

@[simp] theorem State.deriveKeyWord_uid (s : State) (j : Fin 4) : (s.deriveKeyWord j).uid = s.uid := rfl

theorem uidByte_deriveKeyWord (s : State) (j : Fin 4) : uidByte (s.deriveKeyWord j) = uidByte s := rfl

/-! The values derived are functions of the UID. -/

/-- In states with the same UID the key seed buffers mix to the same value (R92, R93). -/
theorem mix_seedKey_of_uid {s u : State} (huid : u.uid = s.uid) {count : Nat} (hcount : count ≤ 6) :
    mix (seedKey Config.keyPad u.uid count u.seed) count = mix (seedKey Config.keyPad s.uid count s.seed) count := by
  rw [huid]
  exact mix_seedKey_anyBuffer _ _ _ _ hcount

/-- The scramble that a state with the UID of `s` computes (R89, R92). -/
theorem scramble_result_of_uid {s u : State} (huid : u.uid = s.uid) {count : Nat} (hcount : count ≤ 6) :
    (u.scramble count).result = mix (seedKey Config.keyPad s.uid count s.seed) count := by
  rw [State.scramble_result, State.seedKey_seed, mix_seedKey_of_uid huid hcount]

/-- In states with the same UID the password seed buffer comes out the same (R92, R93). -/
theorem seedPwd_seed_of_uid {s s' : State} (huid : s'.uid = s.uid) : s'.seedPwd.seed = s.seedPwd.seed := by
  rw [State.seedPwd_seed, State.seedPwd_seed, huid]
  exact seedPwd_congr _ _ _ fun _ _ _ => rfl

/-- A turn of DERIVE_KEY writes the reversed scramble of the UID, whatever earlier turns left in the buffer
(R91). -/
theorem deriveKeyWord_read_key {s u : State} (huid : u.uid = s.uid) (j : Fin 4) :
    (u.deriveKeyWord j).read (.key j) =
      revb (mix (seedKey Config.keyPad s.uid (3 + j.val) s.seed) (3 + j.val)) := by
  rw [← scramble_result_of_uid huid (by omega)]
  exact read_write_same (r := .key j) _ _ (by simp)

/-- Each key word keeps what its own turn wrote: the later turns write other key words (R91). -/
theorem effectOf_deriveKey_read_key (s : State) (j : Fin 4) :
    (s.effectOf .deriveKey).read (.key j) =
      revb (mix (seedKey Config.keyPad s.uid (3 + j.val) s.seed) (3 + j.val)) := by
  have later (u : State) (k : Fin 4) (hjk : j ≠ k) : (u.deriveKeyWord k).read (.key j) = u.read (.key j) :=
    deriveKeyWord_read u k (by simpa using hjk) (by simp)
  rw [State.effectOf]
  match j with
  | 0 => rw [later _ 3 (by decide), later _ 2 (by decide), later _ 1 (by decide), deriveKeyWord_read_key rfl]
  | 1 => rw [later _ 3 (by decide), later _ 2 (by decide), deriveKeyWord_read_key (s := s) (by simp)]
  | 2 => rw [later _ 3 (by decide), deriveKeyWord_read_key (s := s) (by simp)]
  | 3 => rw [deriveKeyWord_read_key (s := s) (by simp)]

/-- RESULT keeps the raw scramble of the last turn (R91). -/
theorem effectOf_deriveKey_result (s : State) :
    (s.effectOf .deriveKey).result = mix (seedKey Config.keyPad s.uid 6 s.seed) 6 := by
  have hcount : 3 + (3 : Fin 4).val = 6 := rfl
  rw [State.effectOf, State.deriveKeyWord_result, hcount, scramble_result_of_uid (s := s) (by simp) (by decide)]

/-- The last turn leaves the key seed buffer for 6 (R91). -/
theorem seedByte_effectOf_deriveKey (s : State) (i : Fin 24) :
    seedByte (s.effectOf .deriveKey).seed i.val = keySeedByte Config.keyPad (uidByte s) 6 i := by
  have hcount : 3 + (3 : Fin 4).val = 6 := rfl
  rw [State.effectOf, State.deriveKeyWord_seed, State.scramble_seed, hcount,
    State.seedKey_seedByte _ (by decide), uidByte_deriveKeyWord, uidByte_deriveKeyWord, uidByte_deriveKeyWord]

/-! The ends without error. -/

theorem seedKey_endsOk (s : State) {count : Nat} (hcount : count ≤ 6) :
    EndsOk keySeedRegs s (s.seedKey count).completeOk :=
  completeOk_endsOk (setSeed_sameButOutputs s _) fun _ => seedKey_read s hcount

theorem scramble_endsOk (s : State) {count : Nat} (hcount : count ≤ 6) :
    EndsOk (.result :: keySeedRegs) s (s.scramble count).completeOk :=
  completeOk_endsOk (scramble_sameButOutputs s count) fun _ => scramble_read s hcount

theorem derivePwd_endsOk (s : State) (v : Word) :
    EndsOk (.result :: .pwd :: seedRegs) s ((s.seedPwd.setResult v).setPwd v).completeOk := by
  refine completeOk_endsOk (((setSeed_sameButOutputs s _).trans (setResult_sameButOutputs _ v)).trans
    (setPwd_sameButOutputs _ v)) fun r hr => ?_
  have hafter := List.not_mem_of_not_mem_cons hr
  rw [setPwd_read _ _ (List.ne_of_not_mem_cons hafter), setResult_read _ _ (List.ne_of_not_mem_cons hr)]
  exact setSeed_read s _ fun i hi => List.not_mem_of_not_mem_cons hafter (hi ▸ mem_seedRegs i)

theorem deriveKey_endsOk (s : State) :
    EndsOk (.result :: .key 0 :: .key 1 :: .key 2 :: .key 3 :: keySeedRegs) s
      (s.effectOf .deriveKey).completeOk := by
  refine completeOk_endsOk ((((deriveKeyWord_sameButOutputs s 0).trans (deriveKeyWord_sameButOutputs _ 1)).trans
    (deriveKeyWord_sameButOutputs _ 2)).trans (deriveKeyWord_sameButOutputs _ 3)) fun r hr => ?_
  have hkey (j : Fin 4) : r ≠ .key j := by
    rintro rfl
    revert j
    decide
  have hout : r ∉ Reg.result :: keySeedRegs :=
    fun h => hr (List.cons_subset_cons _ (by decide : keySeedRegs ⊆ _) h)
  rw [State.effectOf, deriveKeyWord_read _ 3 (hkey 3) hout, deriveKeyWord_read _ 2 (hkey 2) hout,
    deriveKeyWord_read _ 1 (hkey 1) hout, deriveKeyWord_read _ 0 (hkey 0) hout]

end Sys2Proof.Machine

open Sys2Proof Sys2Proof.Machine Sys2Proof.Claims

/-- Settles O23: the bytes are those of the password seed buffer, and the example's words pack them. -/
theorem seedPwdBuildsThePasswordSeed : Obligations.SeedPwdBuildsThePasswordSeed := by
  refine ⟨rfl, fun s => ⟨_, exec_seedPwd s, setSeed_endsOk s _, State.seedPwd_seedByte s,
    fun huid => ?specExample⟩, illegalWithExtraBits (by decide)⟩
  case specExample =>
    simp only [State.read, State.completeOk_seed, State.seedPwd_seed, huid]
    exact ⟨(seedWord_seedPwd_zero _ _ _).trans (by decide), seedWord_seedPwd_four _ _ _,
      seedWord_seedPwd_last _ _ _⟩

/-- Settles O24: the bytes are those of the key seed buffer, and the example's words take none of the pad. -/
theorem seedKeyBuildsTheKeySeed : Obligations.SeedKeyBuildsTheKeySeed := by
  refine ⟨fun _ => assemble_eq_or _, fun count s h => ⟨_, exec_seedKey s h, seedKey_endsOk s h,
    State.seedKey_seedByte s h, ?specExample⟩, invalidAbove ?range, illegalWithReservedBits _⟩
  case specExample =>
    rintro rfl huid
    simp only [State.read, State.completeOk_seed, State.seedKey_seed, huid]
    exact ⟨(seedWord_seedKey_two_zero _ _ _).trans (by decide),
      (seedWord_seedKey_two_four _ _ _).trans (by decide)⟩
  case range => exact fun n hn => decide_eq_false (by omega)

/-- Settles O25: RESULT is the mix of the buffer left, whose words for counts 0 to 2 take none of the pad. -/
theorem scrambleMixesTheKeySeed : Obligations.ScrambleMixesTheKeySeed := by
  refine ⟨fun _ => assemble_eq_or _, fun count s h => ⟨_, exec_scramble s h, scramble_endsOk s h,
    State.seedKey_seedByte s h, rfl, ?noWords, ?oneWord, ?twoWords, ?again,
    fun huid => ⟨?exampleOne, ?exampleTwo⟩⟩,
    fun p q uid buf count _ hcount hpad => mix_seedKey_congr uid buf buf hcount hpad,
    invalidAbove ?range, illegalWithReservedBits _⟩
  case noWords =>
    rintro rfl
    exact mix_zero (s.seedKey 0).seed
  case oneWord =>
    rintro rfl
    exact mix_seedKey_one Config.keyPad s.uid s.seed
  case twoWords =>
    rintro rfl
    exact (mix_seedKey_two Config.keyPad s.uid s.seed).trans (congrArg (mixStep _) (packLE_byteOf s.uid0))
  case again => exact ⟨_, exec_mix _ (by omega), rfl⟩
  case exampleOne =>
    rintro rfl
    refine (mix_seedKey_one Config.keyPad s.uid s.seed).trans ?_
    rw [huid]
    decide
  case exampleTwo =>
    rintro rfl
    refine (mix_seedKey_two Config.keyPad s.uid s.seed).trans ?_
    rw [huid]
    decide
  case range => exact fun n hn => decide_eq_false (by omega)

/-- Settles O26: RESULT and PWD are the mix of the buffer left, and that buffer is a function of the UID and pad
bytes 7 to 29. -/
theorem derivePwdMixesThePasswordSeed : Obligations.DerivePwdMixesThePasswordSeed := by
  refine ⟨rfl, fun s => ⟨_, exec_derivePwd s, derivePwd_endsOk s _, State.seedPwd_seedByte s, rfl, rfl, ?bytes⟩,
    fun p q uid b c hpad => congrArg (mix · 8) (seedPwd_congr uid b c hpad), fun buf => ?candidate, by decide,
    illegalWithExtraBits (by decide)⟩
  case bytes =>
    intro k
    rw [getElem_unpackLE]
    exact windowByte_regOffset _ .pwd k
  case candidate =>
    rw [seedPwd_congr exampleUid buf (Vector.replicate 32 0#8) fun _ _ _ => rfl]
    decide +kernel

/-- Settles O27: each key word is the reversed scramble of its own turn, and the last turn leaves its buffer and
its raw value. -/
theorem deriveKeyReversesFourScrambles : Obligations.DeriveKeyReversesFourScrambles := by
  refine ⟨rfl, fun s => ⟨_, exec_inRange .deriveKey s rfl, deriveKey_endsOk s, fun j => ?keys, ?result,
    seedByte_effectOf_deriveKey s⟩, fun buf => ?candidate, by decide, illegalWithExtraBits (by decide)⟩
  case keys => rw [completeOk_read _ (by simp), effectOf_deriveKey_read_key]
  case result => exact effectOf_deriveKey_result s
  case candidate =>
    have anyBuffer {count : Nat} (h : count ≤ 6) :=
      mix_seedKey_anyBuffer candidateKeyPad exampleUid buf (Vector.replicate 32 0#8) h
    rw [anyBuffer (by decide : 3 ≤ 6), anyBuffer (by decide : 4 ≤ 6), anyBuffer (by decide : 5 ≤ 6),
      anyBuffer (by decide : 6 ≤ 6)]
    decide +kernel

/-- Settles O31: the buffers mixed are the same for the same UID, whatever stood in them. -/
theorem derivedValuesDependOnTheUidAlone : Obligations.DerivedValuesDependOnTheUidAlone := by
  intro s s' h0 h1
  have huid := uid_of_reads h0 h1
  have hscramble {count : Nat} (h : count ≤ 6) := mix_seedKey_of_uid huid h
  refine ⟨fun count h => ⟨_, _, exec_scramble s h, exec_scramble s' h, ?scramble⟩,
    ⟨_, _, exec_derivePwd s, exec_derivePwd s', ?pwd⟩,
    ⟨_, _, exec_inRange .deriveKey s rfl, exec_inRange .deriveKey s' rfl, ?result, fun j => ?key⟩⟩
  case scramble => exact (scramble_result_of_uid huid h).trans (scramble_result_of_uid rfl h).symm
  case pwd =>
    have hmix : mix s'.seedPwd.seed 8 = mix s.seedPwd.seed 8 := congrArg (mix · 8) (seedPwd_seed_of_uid huid)
    exact ⟨hmix, hmix⟩
  case result =>
    change (s'.effectOf .deriveKey).result = (s.effectOf .deriveKey).result
    rw [effectOf_deriveKey_result, effectOf_deriveKey_result, hscramble (by decide)]
  case key =>
    rw [completeOk_read _ (by simp), completeOk_read _ (by simp), effectOf_deriveKey_read_key,
      effectOf_deriveKey_read_key, hscramble (by omega)]

end

section
/-! TEA round by round (43_tea.md section 1): the state of either loop after each round, and its round sum. -/

namespace Sys2Proof.Machine

/-- The encrypt loop's values after `r` rounds (R94). -/
def teaEncAfter (k : Vector Word 4) (x y : Word) (r : Nat) : TeaState := (teaEncRound k)^[r] ⟨0#32, x, y⟩

/-- The decrypt loop's values after `r` rounds (R95). -/
def teaDecAfter (k : Vector Word 4) (x y : Word) (r : Nat) : TeaState :=
  (teaDecRound k)^[r] ⟨0xC6EF3720#32, x, y⟩

theorem teaEncrypt_eq_teaEncAfter (k : Vector Word 4) (x y : Word) :
    teaEncrypt k x y = ((teaEncAfter k x y 32).v0, (teaEncAfter k x y 32).v1) := rfl

theorem teaDecrypt_eq_teaDecAfter (k : Vector Word 4) (x y : Word) :
    teaDecrypt k x y = ((teaDecAfter k x y 32).v0, (teaDecAfter k x y 32).v1) := rfl

theorem teaEncAfter_succ (k : Vector Word 4) (x y : Word) (r : Nat) :
    teaEncAfter k x y (r + 1) = teaEncRound k (teaEncAfter k x y r) := Function.iterate_succ_apply' _ _ _

theorem teaDecAfter_succ (k : Vector Word 4) (x y : Word) (r : Nat) :
    teaDecAfter k x y (r + 1) = teaDecRound k (teaDecAfter k x y r) := Function.iterate_succ_apply' _ _ _

theorem teaEncAfter_sum (k : Vector Word 4) (x y : Word) (r : Nat) :
    (teaEncAfter k x y r).sum = BitVec.ofNat 32 r * teaDelta :=
  (teaEncRound_iterate_sum k r _).trans (BitVec.zero_add _)

/-- The sum falls by delta each round (R95). -/
theorem teaDecAfter_sum (k : Vector Word 4) (x y : Word) (r : Nat) :
    (teaDecAfter k x y r).sum = 0xC6EF3720#32 - BitVec.ofNat 32 r * teaDelta := by
  induction r with
  | zero => rfl
  | succ r ih =>
    have hround : (teaDecAfter k x y (r + 1)).sum = (teaDecAfter k x y r).sum - teaDelta := by
      rw [teaDecAfter_succ, teaDecRound]
    rw [hround, ih, BitVec.ofNat_add, BitVec.add_mul, BitVec.one_mul, sub_sub]

/-! One round, component by component (R94, R95). -/

theorem teaEncAfter_succ_v0 (k : Vector Word 4) (x y : Word) (r : Nat) :
    (teaEncAfter k x y (r + 1)).v0 = (teaEncAfter k x y r).v0 +
      teaMixin (teaEncAfter k x y r).v1 (BitVec.ofNat 32 (r + 1) * teaDelta) k[0] k[1] := by
  rw [← teaEncAfter_sum k x y (r + 1), teaEncAfter_succ]
  rfl

theorem teaEncAfter_succ_v1 (k : Vector Word 4) (x y : Word) (r : Nat) :
    (teaEncAfter k x y (r + 1)).v1 = (teaEncAfter k x y r).v1 +
      teaMixin (teaEncAfter k x y (r + 1)).v0 (BitVec.ofNat 32 (r + 1) * teaDelta) k[2] k[3] := by
  rw [← teaEncAfter_sum k x y (r + 1), teaEncAfter_succ]
  rfl

theorem teaDecAfter_succ_v1 (k : Vector Word 4) (x y : Word) (r : Nat) :
    (teaDecAfter k x y (r + 1)).v1 = (teaDecAfter k x y r).v1 -
      teaMixin (teaDecAfter k x y r).v0 (0xC6EF3720#32 - BitVec.ofNat 32 r * teaDelta) k[2] k[3] := by
  rw [← teaDecAfter_sum k x y r, teaDecAfter_succ]
  rfl

theorem teaDecAfter_succ_v0 (k : Vector Word 4) (x y : Word) (r : Nat) :
    (teaDecAfter k x y (r + 1)).v0 = (teaDecAfter k x y r).v0 -
      teaMixin (teaDecAfter k x y (r + 1)).v1 (0xC6EF3720#32 - BitVec.ofNat 32 r * teaDelta) k[0] k[1] := by
  rw [← teaDecAfter_sum k x y r, teaDecAfter_succ]
  rfl

/-! Encrypt undoes decrypt (R98), the companion of `teaDecrypt_teaEncrypt`. -/

/-- An encrypt round undoes a decrypt round: it restores the sum, then v0, then v1 (R94, R95). -/
theorem teaEncRound_teaDecRound (k : Vector Word 4) :
    Function.LeftInverse (teaEncRound k) (teaDecRound k) := by
  intro t
  simp only [teaEncRound, teaDecRound, BitVec.sub_add_cancel]

/-- Encrypt starts from the sum decrypt ends with, so its rounds undo decrypt's in turn (R98). -/
theorem teaEncrypt_teaDecrypt (k : Vector Word 4) (x y : Word) :
    teaEncrypt k (teaDecrypt k x y).1 (teaDecrypt k x y).2 = (x, y) := by
  have hsum : (teaDecAfter k x y 32).sum = 0#32 := by
    rw [teaDecAfter_sum]
    decide
  have hundo : (teaEncRound k)^[32] (teaDecAfter k x y 32) = ⟨0xC6EF3720#32, x, y⟩ :=
    (teaEncRound_teaDecRound k).iterate 32 _
  rw [teaDecrypt_eq_teaDecAfter, teaEncrypt, ← hsum]
  simp only [hundo]

/-- The all-zero example of R96. -/
theorem teaEncrypt_zero : teaEncrypt #v[0#32, 0#32, 0#32, 0#32] 0#32 0#32 = (0x41EA3A0A#32, 0x94BAA940#32) := by
  decide +kernel

/-- R97's example, which takes back the one of R96. -/
theorem teaDecrypt_zero_ciphertext :
    teaDecrypt #v[0#32, 0#32, 0#32, 0#32] 0x41EA3A0A#32 0x94BAA940#32 = (0#32, 0#32) := by
  have hback := teaDecrypt_teaEncrypt #v[0#32, 0#32, 0#32, 0#32] 0#32 0#32
  rwa [teaEncrypt_zero] at hback

/-- The block that was never encrypted, of R97's example. -/
theorem teaDecrypt_zero : teaDecrypt #v[0#32, 0#32, 0#32, 0#32] 0#32 0#32 = (0x1423FF6D#32, 0x9216EF3A#32) := by
  decide +kernel

end Sys2Proof.Machine

open Sys2Proof.Machine

/-- Settles O14: the sequences are v0 and v1 after each round of the encrypt loop. -/
theorem teaEncryptFollowsItsRounds : Obligations.TeaEncryptFollowsItsRounds := by
  intro k x y
  refine ⟨fun r => (teaEncAfter k x y r).v0, fun r => (teaEncAfter k x y r).v1, rfl, rfl,
    teaEncrypt_eq_teaEncAfter k x y, by decide, fun r _ => ?round⟩
  case round => exact ⟨teaEncAfter_succ_v0 k x y r, teaEncAfter_succ_v1 k x y r⟩

/-- Settles O15: the sequences are v0 and v1 after each round of the decrypt loop. -/
theorem teaDecryptFollowsItsRounds : Obligations.TeaDecryptFollowsItsRounds := by
  intro k x y
  refine ⟨fun r => (teaDecAfter k x y r).v0, fun r => (teaDecAfter k x y r).v1, rfl, rfl,
    teaDecrypt_eq_teaDecAfter k x y, fun r _ => ?round⟩
  case round => exact ⟨teaDecAfter_succ_v1 k x y r, teaDecAfter_succ_v0 k x y r⟩

/-- Settles O16: the rounds undo each other, and TEA_DEC reads the key and the block that TEA_ENC leaves. -/
theorem teaDecryptInvertsEncrypt : Obligations.TeaDecryptInvertsEncrypt := by
  refine ⟨fun k x y => ⟨teaDecrypt_teaEncrypt k x y, teaEncrypt_teaDecrypt k x y⟩, fun s =>
    ⟨_, _, exec_teaEnc s, exec_teaDec _, ?onTheMachine⟩⟩
  case onTheMachine =>
    simp only [State.read, State.completeOk_v0, State.completeOk_v1, State.completeOk_key, State.setBlock_v0,
      State.setBlock_v1, State.setBlock_key, teaDecrypt_teaEncrypt, and_self]

end

section
/-! The TEA commands (43_tea.md section 2): the block they leave, their frame and their errors. -/

namespace Sys2Proof.Machine

open Sys2Proof.Claims

/-- A new block shows in V0 and V1 only (R31). -/
theorem setBlock_read (s : State) (b : Word × Word) {r : Reg} (h : r ∉ [Reg.v0, .v1]) :
    (s.setBlock b).read r = s.read r := by
  cases r with
  | v0 | v1 => exact absurd (by decide) h
  | _ => rfl

theorem setBlock_endsOk (s : State) (b : Word × Word) : EndsOk [.v0, .v1] s (s.setBlock b).completeOk :=
  completeOk_endsOk (setBlock_sameButOutputs s b) fun _ => setBlock_read s b

/-- The key is its four registers (R30). -/
theorem key_eq_reads (s : State) :
    s.key = #v[s.read (.key 0), s.read (.key 1), s.read (.key 2), s.read (.key 3)] := by
  ext i hi
  match i, hi with
  | 0, _ | 1, _ | 2, _ | 3, _ => rfl

theorem key_eq_zero {s : State} (h : ∀ j, s.read (.key j) = 0#32) : s.key = #v[0#32, 0#32, 0#32, 0#32] := by
  rw [key_eq_reads, h, h, h, h]

end Sys2Proof.Machine

open Sys2Proof Sys2Proof.Machine Sys2Proof.Claims

/-- Settles O28: V0 and V1 are the block encrypted under the key that the four registers make. -/
theorem teaEncEncryptsTheBlock : Obligations.TeaEncEncryptsTheBlock := by
  refine ⟨rfl, fun s => ⟨_, exec_teaEnc s, setBlock_endsOk s _, ?block, ?zeroExample⟩,
    illegalWithExtraBits (by decide)⟩
  case block => rw [← key_eq_reads]; rfl
  case zeroExample =>
    intro hkey (h0 : s.v0 = 0#32) (h1 : s.v1 = 0#32)
    rw [key_eq_zero hkey, h0, h1, teaEncrypt_zero]
    exact ⟨rfl, rfl⟩

/-- Settles O29: as for TEA_ENC; the first example decrypts what TEA_ENC's example encrypts. -/
theorem teaDecDecryptsTheBlock : Obligations.TeaDecDecryptsTheBlock := by
  refine ⟨rfl, fun s => ⟨_, exec_teaDec s, setBlock_endsOk s _, ?block, ?encryptedExample, ?zeroExample⟩,
    illegalWithExtraBits (by decide)⟩
  case block => rw [← key_eq_reads]; rfl
  case encryptedExample =>
    intro hkey (h0 : s.v0 = 0x41EA3A0A#32) (h1 : s.v1 = 0x94BAA940#32)
    rw [key_eq_zero hkey, h0, h1, teaDecrypt_zero_ciphertext]
    exact ⟨rfl, rfl⟩
  case zeroExample =>
    intro hkey (h0 : s.v0 = 0#32) (h1 : s.v1 = 0#32)
    rw [key_eq_zero hkey, h0, h1, teaDecrypt_zero]
    exact ⟨rfl, rfl⟩

end

section
/-! What can clear STICKY_ERR: the reset, or a host write of STATUS with bit 3 set (R21, R107). -/

namespace Sys2Proof.Machine

/-- Both ways of completing keep a set STICKY_ERR (R23). -/
theorem complete_keeps_sticky {s t : State} (hs : statusSticky s.status = true) (ht : complete s = .next t) :
    statusSticky t.status = true := by
  rcases complete_cases s with ⟨e, he⟩ | ⟨u, hu, hsame⟩
  · cases he.symm.trans ht
    simp
  · cases hu.symm.trans ht
    simp [hsame.status, hs]

/-- A write clears a set STICKY_ERR only at STATUS, by its bit 3: an acceptance keeps it (R21, R23). -/
theorem clearingWrite_of_writeOffset {s : State} {off : Nat} {v : Word} (hs : statusSticky s.status = true)
    (ht : statusSticky (s.writeOffset off v).status = false) : off = 0x04 ∧ v.getLsbD 3 = true := by
  rcases writeOffset_cases s off v with ⟨-, hw⟩ | ⟨h4, hw⟩ | ⟨-, -, hctl⟩
  · simp [hw, hs] at ht
  · exact ⟨h4, by simpa [hw, hs] using ht⟩
  · simp [hctl.status, hs] at ht

/-- A host statement that clears a set STICKY_ERR performs a write of STATUS with bit 3 set. -/
theorem clearingWrite_of_runStmt {s t : State} {st : HostStmt} (hs : statusSticky s.status = true)
    (h : runStmt st s = .next t) (ht : statusSticky t.status = false) :
    ∃ v, transactionOf s.hostVars st = some (.write 0x04 v) ∧ v.getLsbD 3 = true := by
  rcases runStmt_next h with ⟨off, v, htr, rfl, -⟩ | ⟨hctl, -⟩
  · obtain ⟨rfl, hv⟩ := clearingWrite_of_writeOffset hs ht
    exact ⟨v, htr, hv⟩
  · simp [hctl.status, hs] at ht

end Sys2Proof.Machine

open Sys2Proof Sys2Proof.Machine Sys2Proof.Claims

/-- Settles O38: the acceptance's STATUS, the completion of the decoded command, the frame of an error, and
the cases of a step for what clears STICKY_ERR. -/
theorem stickyErrStaysUntilClearedOrReset : Obligations.StickyErrStaysUntilClearedOrReset := by
  refine ⟨fun s w hidle _ => ?accepted, fun s i hwf hrange h => ?completes, raise_endsError,
    fun s t hstep hs ht => ?cleared⟩
  case accepted =>
    refine ⟨s.write .cmd w, hostWrite_regOffset_idle .cmd w hidle, ?_, ?_, ?_, rfl, _, rfl⟩ <;>
      simp [State.write]
  case completes =>
    have ⟨_, hcmd, _⟩ := h
    have hdecode : decode s.cmd = .instr i := hcmd ▸ encodeThenDecode i hwf
    rw [step_of_ready h, complete_of_decode hdecode]
    exact ⟨_, exec_inRange i s hrange, by simp [StatusIs]⟩
  case cleared =>
    rcases step_cases s with ⟨hr, -⟩ | ⟨-, -, hc⟩ | ⟨-, w, n, st, -, hst, hrun⟩ |
      ⟨-, -, st, hst, hrun⟩ | ⟨-, -, -, hstay⟩
    · exact .inl hr
    · have hkept := complete_keeps_sticky hs (hc.symm.trans hstep)
      exact absurd hkept (Bool.eq_false_iff.mp ht)
    · obtain ⟨v, hv⟩ := clearingWrite_of_runStmt (s := s.setEngine (.busy w n)) hs (hrun.symm.trans hstep) ht
      exact .inr ⟨st, v, hst, hv⟩
    · obtain ⟨v, hv⟩ := clearingWrite_of_runStmt hs (hrun.symm.trans hstep) ht
      exact .inr ⟨st, v, hst, hv⟩
    · cases hstay.symm.trans hstep
      exact absurd hs (Bool.eq_false_iff.mp ht)

end

section
/-! A pending command ends: its host statements leave the engine busy until the complete step (R122). -/

namespace Sys2Proof.Machine

/-- A host statement is performed or is a fault of the host program (R105). -/
theorem runStmt_outcome (st : HostStmt) (s : State) :
    (∃ t, runStmt st s = .next t) ∨ ∃ f, runStmt st s = .fault f := by
  cases htr : transactionOf s.hostVars st with
  | none =>
    rcases stmt_of_no_transaction htr with hfault | ⟨x, e, rfl⟩ | ⟨c, d, rfl⟩
    · exact .inr ⟨_, hfault⟩
    · exact .inl ⟨_, rfl⟩
    · exact .inl ⟨_, rfl⟩
  | some tr =>
    cases tr with
    | write off v =>
      rw [runStmt_of_write htr]
      rcases hostWrite_stops (off := off) (v := v) (s := s) with hfault | ⟨t, ht⟩
      · exact .inr ⟨_, doWrite_of_hostWrite_fault hfault⟩
      · exact .inl ⟨_, doWrite_of_hostWrite_next ht⟩
    | read off =>
      obtain ⟨x, hx⟩ := runStmt_of_read htr
      exact .inl ⟨_, hx⟩

@[simp] theorem write_resetIn (s : State) (r : Reg) (v : Word) : (s.write r v).resetIn = s.resetIn := by
  cases r <;> simp [State.write]

theorem writeOffset_resetIn (s : State) (off : Nat) (v : Word) :
    (s.writeOffset off v).resetIn = s.resetIn := by
  unfold State.writeOffset
  split
  · exact write_resetIn ..
  · rfl

/-- No host statement drives the reset input (log entry 11). -/
theorem runStmt_next_resetIn {st : HostStmt} {s t : State} (h : runStmt st s = .next t) :
    t.resetIn = s.resetIn := by
  cases htr : transactionOf s.hostVars st with
  | none =>
    rcases stmt_of_no_transaction htr with hfault | ⟨x, e, rfl⟩ | ⟨c, d, rfl⟩
    · cases hfault.symm.trans h
    · cases h; rfl
    · cases h; split <;> rfl
  | some tr =>
    cases tr with
    | write off v =>
      rw [runStmt_of_write htr] at h
      obtain ⟨rfl, -⟩ := doWrite_next h
      exact writeOffset_resetIn s off v
    | read off =>
      obtain ⟨x, hx⟩ := runStmt_of_read htr
      cases hx.symm.trans h
      rcases hostRead_snd off s with hr | hr <;> rw [hr] <;> rfl

/-- While busy only a write of STATUS goes through, and that leaves the engine as it is (R21, R124). -/
theorem runStmt_next_engine_of_busy {st : HostStmt} {s t : State} (hbusy : statusBusy s.status = true)
    (h : runStmt st s = .next t) : t.engine = s.engine := by
  rcases runStmt_next h with ⟨off, v, -, rfl, honly⟩ | ⟨hctl, -⟩
  · obtain rfl := honly hbusy
    have hwrite : s.writeOffset 0x04 v = s.write .status v := writeOffset_regOffset s .status v
    rw [State.hostNext_engine, hwrite, State.write, State.setStatus_engine]
  · exact hctl.engine

theorem State.Legal.statusBusy_of_engine {s : State} {w : Word} {n : Nat} (h : s.Legal)
    (he : s.engine = .busy w n) : statusBusy s.status = true := by
  rw [h.1.1, he, Engine.isBusy]

/-- A busy engine completes, or lets one host statement go first, of as many as its latency (R122; log
entries 1, 2). -/
theorem step_of_busy {s : State} {w : Word} {n : Nat} (hr : s.resetIn = false) (he : s.engine = .busy w n) :
    step s = complete s ∨
      ∃ m st, n = m + 1 ∧ step s = runStmt st (s.setEngine (.busy w m)) := by
  rcases n with _ | n
  · exact .inl (by simp only [step_of_no_reset hr, agentStep, he])
  cases hs : s.hostStmt? with
  | none => exact .inl (step_of_host_ended hr he hs)
  | some st => exact .inr ⟨n, st, rfl, (stepPerformsTheHostStatement s st hr hs).2 w n he⟩

/-- At most `n` steps from `s` the engine is idle with DONE set, or the host program has faulted. -/
def EndsWithin (n : Nat) (s : State) : Prop :=
  ∃ k, k ≤ n ∧
    ((∃ t, Sys2Proof.core.run k s = .next t ∧ t.engine = .idle ∧ statusDone t.status = true) ∨
      ∃ f, Sys2Proof.core.run k s = .fault f)

theorem EndsWithin.of_complete {s : State} (n : Nat) (h : step s = complete s) : EndsWithin (n + 1) s := by
  obtain ⟨t, ht, -⟩ := complete_sameHost (s := s)
  obtain ⟨hidle, hdone, -⟩ := complete_done ht
  exact ⟨1, by omega, .inl ⟨t, run_succ 0 (h.trans ht), hidle, hdone⟩⟩

theorem EndsWithin.of_fault {s : State} {f : Fault} (n : Nat) (h : step s = .fault f) : EndsWithin (n + 1) s :=
  ⟨1, by omega, .inr ⟨f, run_of_fault 0 h⟩⟩

theorem EndsWithin.head {s t : State} {n : Nat} (h : step s = .next t) (ht : EndsWithin n t) :
    EndsWithin (n + 1) s := by
  obtain ⟨k, hk, hend⟩ := ht
  refine ⟨k + 1, by omega, ?_⟩
  rw [run_succ k h]
  exact hend

/-- By induction on the latency left: a host statement that does not fault leaves a legal state, busy with
one less. -/
theorem State.Legal.endsWithin {s : State} {w : Word} {n : Nat} (hlegal : s.Legal) (hr : s.resetIn = false)
    (he : s.engine = .busy w n) : EndsWithin (n + 1) s := by
  induction n generalizing s with
  | zero =>
    rcases step_of_busy hr he with hc | ⟨m, st, hm, -⟩
    · exact .of_complete 0 hc
    · cases hm
  | succ n ih =>
    rcases step_of_busy hr he with hc | ⟨m, st, hm, hst⟩
    · exact .of_complete _ hc
    cases hm
    rcases runStmt_outcome st (s.setEngine (.busy w n)) with ⟨t, ht⟩ | ⟨f, hf⟩
    · have hlegal' : (s.setEngine (.busy w n)).Legal := hlegal.setRemaining he
      have hengine : t.engine = .busy w n := runStmt_next_engine_of_busy (hlegal'.statusBusy_of_engine rfl) ht
      exact .head (hst.trans ht) (ih (hlegal'.runStmt ht) ((runStmt_next_resetIn ht).trans hr) hengine)
    · exact .of_fault _ (hst.trans hf)

end Sys2Proof.Machine

open Sys2Proof.Machine

/-- Settles O56, by induction on the latency left. -/
theorem pendingCommandAlwaysCompletes : Obligations.PendingCommandAlwaysCompletes :=
  fun _ _ _ hlegal hr he => hlegal.endsWithin hr he

end

section
/-! Host accesses while busy, by the register they name (R123, R124). -/

namespace Sys2Proof.Machine

open Sys2Proof.Claims

/-- No two registers stand at the same offset (R19). -/
theorem regOffset_injective : Function.Injective regOffset := by
  intro r q h
  have hat : some r = some q := by rw [← regAt_regOffset r, h, regAt_regOffset]
  exact Option.some.inj hat

/-- CMD reads as the accepted word, busy or not (R20, R123). -/
theorem hostRead_cmd (s : State) : hostRead (regOffset .cmd) s = (s.cmd, s) := by
  rw [hostRead, readOffset_regOffset]
  simp [regOffset, State.read]

/-- While busy, a read at any offset but those of CMD and STATUS takes a fresh open value (R123; log
entry 5). -/
theorem hostRead_busy_open {s : State} {off : Nat} (hbusy : statusBusy s.status = true)
    (hc : off ≠ regOffset .cmd) (hs : off ≠ regOffset .status) :
    hostRead off s = (Config.busyRead s.draws, s.draw) := by
  simp only [regOffset] at hc hs
  simp [hostRead, hbusy, hc, hs]

/-- What a read of a register gives while busy (R123). -/
theorem hostRead_busy {s : State} (r : Reg) (hbusy : statusBusy s.status = true) :
    hostRead (regOffset r) s =
      if r = .cmd ∨ r = .status then (s.read r, s) else (Config.busyRead s.draws, s.draw) := by
  split
  next h =>
    rcases h with rfl | rfl
    · exact hostRead_cmd s
    · exact hostRead_status s
  next h =>
    obtain ⟨hc, hs⟩ := not_or.mp h
    exact hostRead_busy_open hbusy (regOffset_injective.ne hc) (regOffset_injective.ne hs)

/-- A statement that reads takes no draw beyond its access's own. -/
theorem doRead_next_draws {off x : Nat} {s t : State} (h : doRead off x s = .next t) :
    t.draws = (hostRead off s).2.draws := by
  cases h; rfl

/-- While busy, a statement that writes a register but STATUS is the host hazard (R124). -/
theorem doWrite_busy {s : State} {r : Reg} (v : Word) (hbusy : statusBusy s.status = true)
    (hr : r ≠ .status) : doWrite (regOffset r) v s = .fault .hostHazard :=
  doWrite_of_hostWrite_fault (hostWrite_busy v hbusy hr)

theorem doWrite_status (s : State) (v : Word) :
    doWrite (regOffset .status) v s = .next (s.setStatus (statusWrite s.status v)).hostNext :=
  doWrite_of_hostWrite_next (hostWrite_status s v)

/-- An access at a register's bus address is the access that names the register (R44, R65). -/
theorem runStmt_bus_regOffset (s : State) (r : Reg) (x : Nat) (e : Expr) :
    runStmt (.busRead (Config.base + regOffset r) 4 x) s = doRead (regOffset r) x s ∧
    runStmt (.busWrite (Config.base + regOffset r) 4 e) s = doWrite (regOffset r) (evalExpr s.hostVars e) s :=
  runStmt_bus_of_accepted s x e (acceptedOffset_regOffset r)

/-- STATUS is no part of another register. -/
theorem setStatus_sameRegs (s : State) (st : BitVec 8) : SameRegsBut [] s (s.setStatus st) := by
  intro r hr _
  cases r with
  | status => exact absurd rfl hr
  | _ => rfl

end Sys2Proof.Machine

open Sys2Proof Sys2Proof.Machine Sys2Proof.Claims

/-- Settles O47, by the offset read: CMD's, STATUS's or another. -/
theorem readsWhileBusy : Obligations.ReadsWhileBusy := by
  refine fun s hbusy => ⟨hostRead_status s, hostRead_cmd s, fun off hc hs => ?other, fun hwf r x => ?stmt⟩
  case other =>
    rw [hostRead_busy_open hbusy hc hs]
    exact ⟨rfl, rfl⟩
  case stmt =>
    obtain ⟨t, ht, hx, hother, hregs, hengine, hpos⟩ := doRead_effect (regOffset r) x hwf
    have hdraws := doRead_next_draws ht
    have hbus := (runStmt_bus_regOffset s r x (.const 0#32)).1
    rw [hostRead_busy r hbusy, apply_ite Prod.fst] at hx
    rw [hostRead_busy r hbusy, apply_ite Prod.snd, apply_ite State.draws] at hdraws
    exact ⟨t, ht, hbus.trans ht, hx, hother, hregs, hengine, hpos, hdraws⟩

/-- Settles O48: a write of STATUS goes through and touches only STICKY_ERR, any other is the hazard. -/
theorem writesWhileBusy : Obligations.WritesWhileBusy := by
  refine fun s w hbusy => ⟨fun r hr => hostWrite_busy w hbusy hr, fun r e hr => ?stmt,
    fun i => doWrite_busy (r := .cmd) _ hbusy (by simp), fun e => ?statusStmt, ?statusWrite⟩
  case stmt =>
    have hhazard := doWrite_busy (evalExpr s.hostVars e) hbusy hr
    exact ⟨hhazard, (runStmt_bus_regOffset s r 0 e).2.trans hhazard⟩
  case statusStmt =>
    have hwrite := doWrite_status s (evalExpr s.hostVars e)
    refine ⟨_, hwrite, (runStmt_bus_regOffset s .status 0 e).2.trans hwrite, rfl, fun r hr hout => ?_,
      rfl, rfl, rfl⟩
    rw [State.hostNext_read, setStatus_sameRegs s _ r hr hout]
  case statusWrite =>
    refine ⟨_, hostWrite_status s w, ?_, ?_, ?_, ?_, ?_, setStatus_sameRegs s _, rfl⟩ <;> simp [hbusy]

end

section
/-! The reset taken, and the machine after the end of a run (R116, R117, R127). -/

namespace Sys2Proof.Machine

/-- A reset of the block gives each register what it has after reset (R116). -/
theorem blockReset_read (s : State) (r : Reg) : s.blockReset.read r = State.reset.read r := by
  cases r <;> rfl

theorem hostStmt?_of_ended {s : State} (h : s.hostProg.length ≤ s.hostPos) : s.hostStmt? = none :=
  List.getElem?_eq_none h

/-- A host whose program has ended does nothing (R118; log entry 12). -/
theorem hostStep_of_no_hostStmt {s : State} (hs : s.hostStmt? = none) : hostStep s = .next s := by
  simp only [hostStep, hs]

end Sys2Proof.Machine

open Sys2Proof.Machine

/-- Settles O50: a reset asserted is taken before either agent moves. -/
theorem resetDiscardsThePendingCommand : Obligations.ResetDiscardsThePendingCommand := by
  intro s hr
  refine ⟨s.blockReset, if_pos hr, fun r => ?_, rfl⟩
  rw [blockReset_read, resetValues.1]

/-- Settles O58: the turn is the host's, which has no statement left. -/
theorem endedRunStaysAsItIs : Obligations.EndedRunStaysAsItIs := by
  intro s hr he hended
  rw [step_of_no_reset hr, agentStep_of_idle he, hostStep_of_no_hostStmt (hostStmt?_of_ended hended)]

end
